-- ==== Sys2Proof/Word.lean ====
section
/-!
DEFINITION. The word types of the engine (spec/00_scope.md R7, R9, R10; spec/30_encoding.md R80, R94).
-/

namespace Sys2Proof

/-- A NUM: the 64 bits of an IEEE 754 binary64 number, sign in bit 63, exponent in bits 62:52,
fraction in bits 51:0 (R7, R94). Its arithmetic is in Machine/Float64.lean. -/
abbrev NUM := BitVec 64

/-- The 32-bit header word of a command message (R80, R81). -/
abbrev Header := BitVec 32

/-- The 193-bit tick record of the TICK port (R93). -/
abbrev TickWord := BitVec 193

/-- A byte, where a platform serialises a message (R70). -/
abbrev Byte := BitVec 8

/-- `+0.0` (R94). -/
abbrev NUM.zero : NUM := 0x0000000000000000#64

/-- `0.5`, the literal of R121 (R10, R94). -/
abbrev NUM.half : NUM := 0x3FE0000000000000#64

/-- `1.0`, the literal of R122 and R135 (R10, R94). -/
abbrev NUM.one : NUM := 0x3FF0000000000000#64

end Sys2Proof
end

