-- ==== Sys2Proof/Syntax.lean ====
section
/-!
DEFINITION. The instructions of the engine: the commands of FDS-CMD v1 and the TICK record, one constructor per row of
spec/opcode_table.json, and the encoded forms they are decoded from (spec/30_encoding.md R80 to R93).
-/

namespace Sys2Proof

/-- A control-filter slot named by the header field SLOT of a control-filter form: 0 FREQ, 1 PHASE (R26, R84). -/
inductive CtrlSel where
  | freq
  | phase
deriving DecidableEq, Repr

/-- The SLOT operand of the RESET command: 0 FREQ, 1 PHASE, 2 AUX, 3 ALL (R81, R211). -/
inductive ResetSel where
  | freq
  | phase
  | aux
  | all
deriving DecidableEq, Repr

/-- SIGN: the real factor +1 (bit 0) or −1 (bit 1) (R10, R86). -/
inductive Sign where
  | plus
  | minus
deriving DecidableEq, Repr

/-- The payload of FILT.LOAD.PID, in order (R84, R204). -/
structure PidParams where
  kp : NUM
  ki : NUM
  kd : NUM
  gain : NUM
  lead : NUM
  outLo : NUM
  outHi : NUM
  intLo : NUM
  intHi : NUM
deriving DecidableEq, Repr

/-- The six scalar words that begin the payload of every Loop form, in order (R84, R205). -/
structure LoopParams where
  ki : NUM
  kii : NUM
  outLo : NUM
  outHi : NUM
  intLo : NUM
  intHi : NUM
deriving DecidableEq, Repr

/-- The six operands of the synthesizer, in order `Ωp, Ωs, δp, δs, G, fs` (R84, R150). -/
structure DesignParams where
  /-- `Ωp`, passband frequency in hertz. -/
  wp : NUM
  /-- `Ωs`, stopband frequency in hertz. -/
  ws : NUM
  /-- `δp`, largest loss allowed at `Ωp`, a linear ratio. -/
  dp : NUM
  /-- `δs`, least loss required at `Ωs`, a linear ratio. -/
  ds : NUM
  /-- `G`, the configured linear gain. -/
  g : NUM
  /-- `fs`, sampling frequency in hertz. -/
  fs : NUM
deriving DecidableEq, Repr

/-- One constructor per row of spec/opcode_table.json (R83, R84, R85, R93). A foreign command keeps the 24 header
bits and the payload that it ignores, so that every message has one decoded form. -/
inductive Instr where
  /-- ACQ.RATE (R224). -/
  | acqRate (low : BitVec 24) (pay : List NUM)
  /-- ACQ.CHANNELS (R224). -/
  | acqChannels (low : BitVec 24) (pay : List NUM)
  /-- ACQ.CONNECT (R224). -/
  | acqConnect (low : BitVec 24) (pay : List NUM)
  /-- ACQ.DISCONNECT (R224). -/
  | acqDisconnect (low : BitVec 24) (pay : List NUM)
  /-- ACQ.DEVICES (R224). -/
  | acqDevices (low : BitVec 24) (pay : List NUM)
  /-- ACT.FREQ (R220). -/
  | actFreq (value : NUM)
  /-- ACT.AMP (R224). -/
  | actAmp (low : BitVec 24) (pay : List NUM)
  /-- ACT.PHASE (R224). -/
  | actPhase (low : BitVec 24) (pay : List NUM)
  /-- ACT.EN (R221). -/
  | actEn (b : Bool)
  /-- ACT.CONNECT (R224). -/
  | actConnect (low : BitVec 24) (pay : List NUM)
  /-- ACT.DISCONNECT (R224). -/
  | actDisconnect (low : BitVec 24) (pay : List NUM)
  /-- ACT.DEVICES (R224). -/
  | actDevices (low : BitVec 24) (pay : List NUM)
  /-- FILT.LOAD.PID (R204). -/
  | filtLoadPid (slot : CtrlSel) (sign : Sign) (p : PidParams)
  /-- FILT.LOAD.I1LP1 (R205); NFF and NFB are the lengths of `ff` and `fb`. -/
  | filtLoadI1LP1 (slot : CtrlSel) (sign : Sign) (p : LoopParams) (ff fb : List NUM)
  /-- FILT.LOAD.I1LP2 (R206). -/
  | filtLoadI1LP2 (slot : CtrlSel) (sign : Sign) (p : LoopParams) (ff fb : List NUM)
  /-- FILT.LOAD.I2LP1 (R207). -/
  | filtLoadI2LP1 (slot : CtrlSel) (sign : Sign) (p : LoopParams) (ff fb : List NUM)
  /-- FILT.LOAD.I2LP2 (R208). -/
  | filtLoadI2LP2 (slot : CtrlSel) (sign : Sign) (p : LoopParams) (ff fb : List NUM)
  /-- FILT.LOAD.LP (R209). -/
  | filtLoadLP (ff fb : List NUM)
  /-- FILT.DESIGN.I1LP1 (R225). -/
  | filtDesignI1LP1 (slot : CtrlSel) (sign : Sign) (p : LoopParams) (d : DesignParams)
  /-- FILT.DESIGN.I1LP2 (R226). -/
  | filtDesignI1LP2 (slot : CtrlSel) (sign : Sign) (p : LoopParams) (d : DesignParams)
  /-- FILT.DESIGN.I2LP1 (R227). -/
  | filtDesignI2LP1 (slot : CtrlSel) (sign : Sign) (p : LoopParams) (d : DesignParams)
  /-- FILT.DESIGN.I2LP2 (R228). -/
  | filtDesignI2LP2 (slot : CtrlSel) (sign : Sign) (p : LoopParams) (d : DesignParams)
  /-- FILT.DESIGN.LP (R229). -/
  | filtDesignLP (d : DesignParams)
  /-- LPAPPLY (R210). -/
  | lpApply (b : Bool)
  /-- The RESET command (R211); the RESET operation (R270) is no command. -/
  | reset (sel : ResetSel) (padding : NUM)
  /-- LOCK B=0, disengage (R213). -/
  | lockB0
  /-- LOCK B=1, engage (R212). -/
  | lockB1
  /-- SP (R214). -/
  | sp (setpoint : NUM)
  /-- MODE B=0, target Frequency (R216). -/
  | modeB0
  /-- MODE B=1, target Phase (R215). -/
  | modeB1
  /-- TICK with its record: NEW, CH1, CH2, AVG (R63, R93, R170). -/
  | tick (isNew : Bool) (ch1 ch2 avg : NUM)
deriving DecidableEq, Repr

/-- A command message as the transport frames it: the header and the payload; PLEN is the payload's
length (R62, R80). -/
structure Message where
  hdr : Header
  pay : List NUM
deriving DecidableEq, Repr

/-- What the ports carry: a command message on CMD or a tick record on TICK (R62, R63). -/
inductive Encoded where
  | message (m : Message)
  | tickRecord (w : TickWord)
deriving DecidableEq, Repr

end Sys2Proof
end

