-- ==== Sys2Proof/WellFormed.lean ====
section
/-!
DEFINITION. When an instruction has an encoding: what the types of Syntax.lean do not already say (spec/30_encoding.md R80, R81).
-/

namespace Sys2Proof

/-- A coefficient vector whose length fits the 8-bit header field NFF or NFB (R81). -/
def fitsLength (v : List NUM) : Bool := v.length < 256

/-- The instruction has an encoding (R81, R84): the LOAD forms carry their lengths in 8-bit fields; every
other operand is whole in its type. -/
def Instr.wf : Instr → Bool
  | .acqRate _ _ | .acqChannels _ _ | .acqConnect _ _ | .acqDisconnect _ _ | .acqDevices _ _ => true
  | .actFreq _ | .actAmp _ _ | .actPhase _ _ | .actEn _ => true
  | .actConnect _ _ | .actDisconnect _ _ | .actDevices _ _ => true
  | .filtLoadPid _ _ _ => true
  | .filtLoadI1LP1 _ _ _ ff fb => fitsLength ff && fitsLength fb
  | .filtLoadI1LP2 _ _ _ ff fb => fitsLength ff && fitsLength fb
  | .filtLoadI2LP1 _ _ _ ff fb => fitsLength ff && fitsLength fb
  | .filtLoadI2LP2 _ _ _ ff fb => fitsLength ff && fitsLength fb
  | .filtLoadLP ff fb => fitsLength ff && fitsLength fb
  | .filtDesignI1LP1 _ _ _ _ | .filtDesignI1LP2 _ _ _ _ => true
  | .filtDesignI2LP1 _ _ _ _ | .filtDesignI2LP2 _ _ _ _ | .filtDesignLP _ => true
  | .lpApply _ | .reset _ _ | .lockB0 | .lockB1 | .sp _ | .modeB0 | .modeB1 => true
  | .tick _ _ _ _ => true

/-- The bound that R80 gives the transport: `0 ≤ PLEN ≤ 2·TAPS_MAX + 6`. DESIGN CHOICE (log 11), safe: the engine looks at no length at
ENQUEUE (R62) and takes longer messages too; with `TAPS_MAX = 2` the bound, 10 words, is below the 12 words that R84 gives
the DESIGN forms of the Loop kinds, and there the spec's rules disagree. -/
def Message.framed (tapsMax : Nat) (m : Message) : Bool := m.pay.length ≤ 2 * tapsMax + 6

end Sys2Proof
end

