-- ==== Sys2Proof/Decode.lean ====
section
/-!
DEFINITION. Decoding a command message and a tick record, total and rejecting by name (spec/30_encoding.md R86 to R89, R93;
spec/44_commands.md R201), and after it the encoder, written from the same tables (R81, R84, R85, R93),
and the byte form of a message (spec/20_memory.md R70).
-/

namespace Sys2Proof

/-- The two ways a message fails to decode (R88, R201). -/
inductive DecodeError where
  /-- A reserved header: it matches no row (R87). -/
  | badCommand
  /-- PLEN differs from EXPLEN (R88). -/
  | formatError
deriving DecidableEq, Repr

/-- The 30 command rows of spec/opcode_table.json, by mnemonic. -/
inductive Opcode where
  | acqRate
  | acqChannels
  | acqConnect
  | acqDisconnect
  | acqDevices
  | actFreq
  | actAmp
  | actPhase
  | actEn
  | actConnect
  | actDisconnect
  | actDevices
  | filtLoadPid
  | filtLoadI1LP1
  | filtLoadI1LP2
  | filtLoadI2LP1
  | filtLoadI2LP2
  | filtLoadLP
  | filtDesignI1LP1
  | filtDesignI1LP2
  | filtDesignI2LP1
  | filtDesignI2LP2
  | filtDesignLP
  | lpApply
  | reset
  | lockB0
  | lockB1
  | sp
  | modeB0
  | modeB1
deriving DecidableEq, Repr

/-- One row of the opcode map (R89). -/
structure TableRow where
  op : Opcode
  pattern : Header
  mask : Header
deriving DecidableEq, Repr

/-- The opcode map: match and mask of every command row, in the order of R89. -/
def opcodeTable : List TableRow := [
  ⟨.acqRate, 0x10000000#32, 0xFF000000#32⟩,
  ⟨.acqChannels, 0x11000000#32, 0xFF000000#32⟩,
  ⟨.acqConnect, 0x12000000#32, 0xFF000000#32⟩,
  ⟨.acqDisconnect, 0x13000000#32, 0xFF000000#32⟩,
  ⟨.acqDevices, 0x14000000#32, 0xFF000000#32⟩,
  ⟨.actFreq, 0x20000000#32, 0xFFFFFFFF#32⟩,
  ⟨.actAmp, 0x21000000#32, 0xFF000000#32⟩,
  ⟨.actPhase, 0x22000000#32, 0xFF000000#32⟩,
  ⟨.actEn, 0x23000000#32, 0xFFFEFFFF#32⟩,
  ⟨.actConnect, 0x24000000#32, 0xFF000000#32⟩,
  ⟨.actDisconnect, 0x25000000#32, 0xFF000000#32⟩,
  ⟨.actDevices, 0x26000000#32, 0xFF000000#32⟩,
  ⟨.filtLoadPid, 0x30000000#32, 0xFFBDFFFF#32⟩,
  ⟨.filtLoadI1LP1, 0x30080000#32, 0xFFBD0000#32⟩,
  ⟨.filtLoadI1LP2, 0x30100000#32, 0xFFBD0000#32⟩,
  ⟨.filtLoadI2LP1, 0x30180000#32, 0xFFBD0000#32⟩,
  ⟨.filtLoadI2LP2, 0x30200000#32, 0xFFBD0000#32⟩,
  ⟨.filtLoadLP, 0x30A80000#32, 0xFFFF0000#32⟩,
  ⟨.filtDesignI1LP1, 0x300C0000#32, 0xFFBDFFFF#32⟩,
  ⟨.filtDesignI1LP2, 0x30140000#32, 0xFFBDFFFF#32⟩,
  ⟨.filtDesignI2LP1, 0x301C0000#32, 0xFFBDFFFF#32⟩,
  ⟨.filtDesignI2LP2, 0x30240000#32, 0xFFBDFFFF#32⟩,
  ⟨.filtDesignLP, 0x30AC0000#32, 0xFFFFFFFF#32⟩,
  ⟨.lpApply, 0x31000000#32, 0xFFFEFFFF#32⟩,
  ⟨.reset, 0x32000000#32, 0xFF3FFFFF#32⟩,
  ⟨.lockB0, 0x33000000#32, 0xFFFFFFFF#32⟩,
  ⟨.lockB1, 0x33010000#32, 0xFFFFFFFF#32⟩,
  ⟨.sp, 0x34000000#32, 0xFFFFFFFF#32⟩,
  ⟨.modeB0, 0x35000000#32, 0xFFFFFFFF#32⟩,
  ⟨.modeB1, 0x35010000#32, 0xFFFFFFFF#32⟩]

/-- The header is one of the row: `HDR & mask = match` (R88). -/
def TableRow.matches (r : TableRow) (h : Header) : Bool := h &&& r.mask == r.pattern

/-- Step (1) of the decoding procedure: the row of the table that the header matches (R88). -/
def findOpcode (h : Header) : Option Opcode := (opcodeTable.find? (·.matches h)).map (·.op)

/-! ### Header fields (R81) -/

/-- `NFF`, bits 15:8. -/
def hdrNff (h : Header) : Nat := (h.extractLsb' 8 8).toNat

/-- `NFB`, bits 7:0. -/
def hdrNfb (h : Header) : Nat := (h.extractLsb' 0 8).toNat

/-- `B`, bit 16. -/
def hdrB (h : Header) : Bool := h.getLsbD 16

/-- `SIGN`, bit 17: 0 is +1, 1 is −1 (R86). -/
def hdrSign (h : Header) : Sign := if h.getLsbD 17 then .minus else .plus

/-- `SLOT` of a control-filter form, where the row fixes bit 23 to 0 (R84, R89). -/
def hdrCtrlSel (h : Header) : CtrlSel := if h.getLsbD 22 then .phase else .freq

/-- `SLOT` of the RESET command, bits 23:22 (R81). -/
def hdrResetSel (h : Header) : ResetSel :=
  if h.getLsbD 23 then (if h.getLsbD 22 then .all else .aux)
  else (if h.getLsbD 22 then .phase else .freq)

/-- `EXPLEN(HDR)`: the payload length the header expects; none for a foreign command, decoded whatever PLEN is
(R84, R85, R86, R88). -/
def expLen (op : Opcode) (h : Header) : Option Nat :=
  match op with
  | .acqRate => none
  | .acqChannels => none
  | .acqConnect => none
  | .acqDisconnect => none
  | .acqDevices => none
  | .actFreq => some 1
  | .actAmp => none
  | .actPhase => none
  | .actEn => some 0
  | .actConnect => none
  | .actDisconnect => none
  | .actDevices => none
  | .filtLoadPid => some 9
  | .filtLoadI1LP1 => some (6 + hdrNff h + hdrNfb h)
  | .filtLoadI1LP2 => some (6 + hdrNff h + hdrNfb h)
  | .filtLoadI2LP1 => some (6 + hdrNff h + hdrNfb h)
  | .filtLoadI2LP2 => some (6 + hdrNff h + hdrNfb h)
  | .filtLoadLP => some (hdrNff h + hdrNfb h)
  | .filtDesignI1LP1 => some 12
  | .filtDesignI1LP2 => some 12
  | .filtDesignI2LP1 => some 12
  | .filtDesignI2LP2 => some 12
  | .filtDesignLP => some 6
  | .lpApply => some 0
  | .reset => some 1
  | .lockB0 => some 0
  | .lockB1 => some 0
  | .sp => some 1
  | .modeB0 => some 0
  | .modeB1 => some 0

/-! ### Payloads (R84, R85) -/

/-- An empty payload. -/
def payloadNone : List NUM → Option Unit
  | [] => some ()
  | _ => none

/-- A payload of one word. -/
def payloadOne : List NUM → Option NUM
  | [v] => some v
  | _ => none

/-- The nine words of FILT.LOAD.PID. -/
def payloadPid : List NUM → Option PidParams
  | [kp, ki, kd, gain, lead, outLo, outHi, intLo, intHi] =>
    some ⟨kp, ki, kd, gain, lead, outLo, outHi, intLo, intHi⟩
  | _ => none

/-- The six scalar words of a Loop form, and the words after them. -/
def payloadLoop : List NUM → Option (LoopParams × List NUM)
  | ki :: kii :: outLo :: outHi :: intLo :: intHi :: rest => some (⟨ki, kii, outLo, outHi, intLo, intHi⟩, rest)
  | _ => none

/-- The six synthesizer operands. -/
def payloadDesign : List NUM → Option DesignParams
  | [wp, ws, dp, ds, g, fs] => some ⟨wp, ws, dp, ds, g, fs⟩
  | _ => none

/-- Step (4): the command with its operands, from a header of the row `op` and a payload of the expected
length; none where the payload has another length (R86). -/
def assemble (op : Opcode) (h : Header) (pay : List NUM) : Option Instr :=
  match op with
  | .acqRate => some (.acqRate (h.extractLsb' 0 24) pay)
  | .acqChannels => some (.acqChannels (h.extractLsb' 0 24) pay)
  | .acqConnect => some (.acqConnect (h.extractLsb' 0 24) pay)
  | .acqDisconnect => some (.acqDisconnect (h.extractLsb' 0 24) pay)
  | .acqDevices => some (.acqDevices (h.extractLsb' 0 24) pay)
  | .actFreq => (payloadOne pay).map .actFreq
  | .actAmp => some (.actAmp (h.extractLsb' 0 24) pay)
  | .actPhase => some (.actPhase (h.extractLsb' 0 24) pay)
  | .actEn => (payloadNone pay).map fun _ => .actEn (hdrB h)
  | .actConnect => some (.actConnect (h.extractLsb' 0 24) pay)
  | .actDisconnect => some (.actDisconnect (h.extractLsb' 0 24) pay)
  | .actDevices => some (.actDevices (h.extractLsb' 0 24) pay)
  | .filtLoadPid => (payloadPid pay).map (.filtLoadPid (hdrCtrlSel h) (hdrSign h))
  | .filtLoadI1LP1 => (payloadLoop pay).map fun q =>
      .filtLoadI1LP1 (hdrCtrlSel h) (hdrSign h) q.1 (q.2.take (hdrNff h)) (q.2.drop (hdrNff h))
  | .filtLoadI1LP2 => (payloadLoop pay).map fun q =>
      .filtLoadI1LP2 (hdrCtrlSel h) (hdrSign h) q.1 (q.2.take (hdrNff h)) (q.2.drop (hdrNff h))
  | .filtLoadI2LP1 => (payloadLoop pay).map fun q =>
      .filtLoadI2LP1 (hdrCtrlSel h) (hdrSign h) q.1 (q.2.take (hdrNff h)) (q.2.drop (hdrNff h))
  | .filtLoadI2LP2 => (payloadLoop pay).map fun q =>
      .filtLoadI2LP2 (hdrCtrlSel h) (hdrSign h) q.1 (q.2.take (hdrNff h)) (q.2.drop (hdrNff h))
  | .filtLoadLP => some (.filtLoadLP (pay.take (hdrNff h)) (pay.drop (hdrNff h)))
  | .filtDesignI1LP1 => (payloadLoop pay).bind fun q =>
      (payloadDesign q.2).map (.filtDesignI1LP1 (hdrCtrlSel h) (hdrSign h) q.1)
  | .filtDesignI1LP2 => (payloadLoop pay).bind fun q =>
      (payloadDesign q.2).map (.filtDesignI1LP2 (hdrCtrlSel h) (hdrSign h) q.1)
  | .filtDesignI2LP1 => (payloadLoop pay).bind fun q =>
      (payloadDesign q.2).map (.filtDesignI2LP1 (hdrCtrlSel h) (hdrSign h) q.1)
  | .filtDesignI2LP2 => (payloadLoop pay).bind fun q =>
      (payloadDesign q.2).map (.filtDesignI2LP2 (hdrCtrlSel h) (hdrSign h) q.1)
  | .filtDesignLP => (payloadDesign pay).map .filtDesignLP
  | .lpApply => (payloadNone pay).map fun _ => .lpApply (hdrB h)
  | .reset => (payloadOne pay).map (.reset (hdrResetSel h))
  | .lockB0 => (payloadNone pay).map fun _ => .lockB0
  | .lockB1 => (payloadNone pay).map fun _ => .lockB1
  | .sp => (payloadOne pay).map .sp
  | .modeB0 => (payloadNone pay).map fun _ => .modeB0
  | .modeB1 => (payloadNone pay).map fun _ => .modeB1

/-- The payload is of the length the header expects, or is not looked at (R88 (2), (3)). -/
def lengthOk (op : Opcode) (m : Message) : Bool :=
  match expLen op m.hdr with
  | none => true
  | some n => m.pay.length == n

/-- The decoding procedure of R88, total on every message: the row, then the length, then the operands. -/
def decodeMessage (m : Message) : Except DecodeError Instr :=
  match findOpcode m.hdr with
  | none => .error .badCommand
  | some op =>
    if lengthOk op m then
      match assemble op m.hdr m.pay with
      | some i => .ok i
      | none => .error .formatError
    else .error .formatError

/-- The fields of a tick record (R93); every record is one. -/
def decodeTick (w : TickWord) : Instr :=
  .tick (w.getLsbD 192) (w.extractLsb' 128 64) (w.extractLsb' 64 64) (w.extractLsb' 0 64)

/-- Decoding of what either port carries. -/
def decode : Encoded → Except DecodeError Instr
  | .message m => decodeMessage m
  | .tickRecord w => .ok (decodeTick w)

/-- The message the transport frames around a header when every payload word is `+0.0`: as many words as the header
expects, none where it expects no number (R80, log 16). -/
def zeroMessage (h : Header) : Message :=
  ⟨h, List.replicate (((findOpcode h).bind (expLen · h)).getD 0) NUM.zero⟩

/-- The instruction whose table bits are `w`: a 32-bit header with payload words of zeros, or the TICK record
of 193 bits (R80, R93, log 16). -/
def decodeTableWord (nbits w : Nat) : Option Instr :=
  if nbits ≤ 32 then
    if w < 2 ^ 32 then (decodeMessage (zeroMessage (BitVec.ofNat 32 w))).toOption else none
  else
    if w < 2 ^ 193 then some (decodeTick (BitVec.ofNat 193 w)) else none

/-! ### The encoder -/

/-- SLOT code of a control-filter slot (R26). -/
def CtrlSel.code : CtrlSel → BitVec 2
  | .freq => 0
  | .phase => 1

/-- SLOT code of the RESET command (R81). -/
def ResetSel.code : ResetSel → BitVec 2
  | .freq => 0
  | .phase => 1
  | .aux => 2
  | .all => 3

/-- SIGN bit (R10). -/
def Sign.bit : Sign → BitVec 1
  | .plus => 0
  | .minus => 1

/-- Header assembly: the fields of R81 from bit 31 down to bit 0. -/
def headerWord (dev cmd : BitVec 4) (slot : BitVec 2) (kind : BitVec 3) (form sign b : BitVec 1)
    (nff nfb : BitVec 8) : Header :=
  dev ++ cmd ++ slot ++ kind ++ form ++ sign ++ b ++ nff ++ nfb

/-- The header of a foreign command: DEV, CMD and the 24 ignored bits (R89). -/
def foreignHeader (dev cmd : BitVec 4) (low : BitVec 24) : Header := dev ++ cmd ++ low

/-- A header with no field but DEV, CMD and B (R85). -/
def plainHeader (dev cmd : BitVec 4) (b : BitVec 1) : Header := headerWord dev cmd 0 0 0 0 b 0 0

/-- The header of a `filt` form; the lengths go to NFF and NFB (R84). -/
def filtHeader (slot : BitVec 2) (kind : BitVec 3) (form : BitVec 1) (sign : Sign) (ff fb : List NUM) : Header :=
  headerWord 3 0 slot kind form sign.bit 0 (BitVec.ofNat 8 ff.length) (BitVec.ofNat 8 fb.length)

/-- The payload words of FILT.LOAD.PID (R84). -/
def PidParams.words (p : PidParams) : List NUM :=
  [p.kp, p.ki, p.kd, p.gain, p.lead, p.outLo, p.outHi, p.intLo, p.intHi]

/-- The six scalar payload words of a Loop form (R84). -/
def LoopParams.words (p : LoopParams) : List NUM := [p.ki, p.kii, p.outLo, p.outHi, p.intLo, p.intHi]

/-- The six synthesizer payload words (R84). -/
def DesignParams.words (d : DesignParams) : List NUM := [d.wp, d.ws, d.dp, d.ds, d.g, d.fs]

/-- The message or record of an instruction (R81, R84, R85, R93). -/
def encode (i : Instr) : Encoded :=
  match i with
  | .acqRate low pay => .message ⟨foreignHeader 1 0 low, pay⟩
  | .acqChannels low pay => .message ⟨foreignHeader 1 1 low, pay⟩
  | .acqConnect low pay => .message ⟨foreignHeader 1 2 low, pay⟩
  | .acqDisconnect low pay => .message ⟨foreignHeader 1 3 low, pay⟩
  | .acqDevices low pay => .message ⟨foreignHeader 1 4 low, pay⟩
  | .actFreq v => .message ⟨plainHeader 2 0 0, [v]⟩
  | .actAmp low pay => .message ⟨foreignHeader 2 1 low, pay⟩
  | .actPhase low pay => .message ⟨foreignHeader 2 2 low, pay⟩
  | .actEn b => .message ⟨plainHeader 2 3 (BitVec.ofBool b), []⟩
  | .actConnect low pay => .message ⟨foreignHeader 2 4 low, pay⟩
  | .actDisconnect low pay => .message ⟨foreignHeader 2 5 low, pay⟩
  | .actDevices low pay => .message ⟨foreignHeader 2 6 low, pay⟩
  | .filtLoadPid slot sign p => .message ⟨filtHeader slot.code 0 0 sign [] [], p.words⟩
  | .filtLoadI1LP1 slot sign p ff fb =>
    .message ⟨filtHeader slot.code 1 0 sign ff fb, p.words ++ ff ++ fb⟩
  | .filtLoadI1LP2 slot sign p ff fb =>
    .message ⟨filtHeader slot.code 2 0 sign ff fb, p.words ++ ff ++ fb⟩
  | .filtLoadI2LP1 slot sign p ff fb =>
    .message ⟨filtHeader slot.code 3 0 sign ff fb, p.words ++ ff ++ fb⟩
  | .filtLoadI2LP2 slot sign p ff fb =>
    .message ⟨filtHeader slot.code 4 0 sign ff fb, p.words ++ ff ++ fb⟩
  | .filtLoadLP ff fb => .message ⟨filtHeader 2 5 0 .plus ff fb, ff ++ fb⟩
  | .filtDesignI1LP1 slot sign p d =>
    .message ⟨filtHeader slot.code 1 1 sign [] [], p.words ++ d.words⟩
  | .filtDesignI1LP2 slot sign p d =>
    .message ⟨filtHeader slot.code 2 1 sign [] [], p.words ++ d.words⟩
  | .filtDesignI2LP1 slot sign p d =>
    .message ⟨filtHeader slot.code 3 1 sign [] [], p.words ++ d.words⟩
  | .filtDesignI2LP2 slot sign p d =>
    .message ⟨filtHeader slot.code 4 1 sign [] [], p.words ++ d.words⟩
  | .filtDesignLP d => .message ⟨filtHeader 2 5 1 .plus [] [], d.words⟩
  | .lpApply b => .message ⟨plainHeader 3 1 (BitVec.ofBool b), []⟩
  | .reset sel v => .message ⟨headerWord 3 2 sel.code 0 0 0 0 0 0, [v]⟩
  | .lockB0 => .message ⟨plainHeader 3 3 0, []⟩
  | .lockB1 => .message ⟨plainHeader 3 3 1, []⟩
  | .sp v => .message ⟨plainHeader 3 4 0, [v]⟩
  | .modeB0 => .message ⟨plainHeader 3 5 0, []⟩
  | .modeB1 => .message ⟨plainHeader 3 5 1, []⟩
  | .tick isNew ch1 ch2 avg => .tickRecord (BitVec.ofBool isNew ++ ch1 ++ ch2 ++ avg)

/-! ### Serialisation, where a platform sends a message as bytes (R70) -/

/-- The `n` bytes of a word, least significant first. -/
def wordBytes : Nat → Nat → List Byte
  | 0, _ => []
  | n + 1, v => BitVec.ofNat 8 v :: wordBytes n (v / 256)

/-- The word that bytes stand for, least significant first. -/
def bytesWord : List Byte → Nat
  | [] => 0
  | b :: bs => b.toNat + 256 * bytesWord bs

/-- A message as bytes: the header word, then every payload word, each least significant byte first (R70, log 24). -/
def Message.bytes (m : Message) : List Byte :=
  wordBytes 4 m.hdr.toNat ++ m.pay.flatMap fun v => wordBytes 8 v.toNat

/-- Payload words from bytes, eight a word; none where bytes are left over (R70). -/
def payloadOfBytes : List Byte → Option (List NUM)
  | [] => some []
  | b0 :: b1 :: b2 :: b3 :: b4 :: b5 :: b6 :: b7 :: bs =>
    (payloadOfBytes bs).map (BitVec.ofNat 64 (bytesWord [b0, b1, b2, b3, b4, b5, b6, b7]) :: ·)
  | _ => none

/-- The message that the transport frames around bytes (R70, R80). -/
def messageOfBytes : List Byte → Option Message
  | b0 :: b1 :: b2 :: b3 :: bs => (payloadOfBytes bs).map (⟨BitVec.ofNat 32 (bytesWord [b0, b1, b2, b3]), ·⟩)
  | _ => none

end Sys2Proof
end

