-- ==== Sys2Proof/Config.lean ====
section
/-!
DEFINITION. The parameters of the engine (spec/00_scope.md R7, R8; spec/70_reset_and_hazards.md R271) and the
free values: what spec/93_implementation_defined.md leaves to the implementation, as constants without a body.
-/

namespace Sys2Proof

/-- `CFG.LP_ORDER`: whether shaping reads the auxiliary-lowpass toggle `BEFORE` or `AFTER` (R7, R174). -/
inductive LpOrder where
  | before
  | after
deriving DecidableEq, Repr

/-- The configuration record CFG that RESET samples (R7, R271). `counterLimit` is an integer so that a
value outside 1 … 2^32 − 1 can be presented and refused (U9). -/
structure Cfg where
  /-- `CFG.DT`, the timestep of every filter and of the phase accumulator. -/
  dt : NUM
  /-- `CFG.MARGIN`, the error margin of the in-margin test. -/
  margin : NUM
  /-- `CFG.COUNTER_LIMIT`, the top `L` of the hysteresis counter. -/
  counterLimit : Nat
  /-- `CFG.LP_ORDER`. -/
  lpOrder : LpOrder
  /-- `CFG.MANUAL0`, the reset value of `S.MANUAL`. -/
  manual0 : NUM
deriving DecidableEq, Repr

/-- The structural parameters of one engine (R7): fixed in the hardware, not sampled by RESET. -/
structure Sizes where
  /-- `TAPS_MAX`, the depth of every coefficient and history array. -/
  tapsMax : Nat
  /-- `CQ_DEPTH`, the capacity of the command queue. -/
  cqDepth : Nat
deriving DecidableEq, Repr

/-- The configuration of `State.reset`. DESIGN CHOICE (log 3), unsafe: the spec gives none of these
values (R271); they are those of the spec's own test programs (spec/95_test_vectors.md P1). No statement rests
on them: every statement is about the CFG that the state holds, whatever it is. -/
def Config.launchCfg : Cfg where
  dt := NUM.one
  margin := NUM.one
  counterLimit := 3
  lpOrder := .before
  manual0 := NUM.zero

/-- The sizes of `State.reset`. DESIGN CHOICE (log 3), unsafe: the spec gives none; `TAPS_MAX = 8` is that
of the spec's test vectors. -/
def Config.launchSizes : Sizes where
  tapsMax := 8
  cqDepth := 32

/-- The three NUM operations that can produce a NaN from operands that are none (R11; a subtraction is the
addition of the sign-flipped operand, log 21). -/
inductive NumOp where
  | add
  | mul
  | div
deriving DecidableEq, Repr

/-- FREE VALUE (log 6): the bits of a NaN that an operation produces from its operands. "The sign and payload
of a produced NaN are `any value`" (U4): nothing in the model fixes this constant. -/
opaque Config.producedNaN : NumOp → NUM → NUM → NUM

/-- FREE VALUE (log 7): the NUM that an implementation's own evaluation of R152 to R159 gives for the
feed-forward coefficient `ff[k]` of the operands `Ωp, Ωs, δp, δs, G, fs` (U2: an implementation supplies the
elementary functions). -/
opaque Config.synFF : NUM → NUM → NUM → NUM → NUM → NUM → Nat → NUM

/-- FREE VALUE (log 7): the same for the feedback coefficient `fb[k]` (U2). -/
opaque Config.synFB : NUM → NUM → NUM → NUM → NUM → NUM → Nat → NUM

end Sys2Proof
end

