-- ==== Sys2Proof/Machine/Float64.lean ====
section
/-!
DEFINITION. NUM arithmetic: IEEE 754 binary64, round to nearest even, subnormals kept, no flags (spec/00_scope.md R7, R10 to R12;
decision D2; spec/30_encoding.md R94). Every finite NUM is a whole number of units of 2^-1074, the smallest
subnormal, so each operation computes its exact result in those units and rounds once.
-/

namespace Sys2Proof.Machine

/-- Bits 51:0, the fraction (R94). -/
def fracField (x : NUM) : Nat := x.toNat % 2 ^ 52

/-- Bits 62:52, the biased exponent (R94). -/
def expField (x : NUM) : Nat := x.toNat / 2 ^ 52 % 2 ^ 11

/-- Bits 62:0, exponent and fraction together. -/
def magField (x : NUM) : Nat := x.toNat % 2 ^ 63

/-- Bit 63, the sign (R94). -/
def signBit (x : NUM) : Bool := 2 ^ 63 ≤ x.toNat

/-- Exponent all ones, fraction not zero. -/
def isNaN (x : NUM) : Bool := expField x == 2047 && fracField x != 0

/-- Exponent all ones, fraction zero. -/
def isInf (x : NUM) : Bool := expField x == 2047 && fracField x == 0

/-- Exponent not all ones. -/
def isFinite (x : NUM) : Bool := expField x != 2047

/-- The absolute value of a finite NUM, in units of 2^-1074. -/
def numMag (x : NUM) : Nat :=
  if expField x = 0 then fracField x else (2 ^ 52 + fracField x) * 2 ^ (expField x - 1)

/-- The value of a finite NUM, in units of 2^-1074. -/
def numFix (x : NUM) : Int := if signBit x then -(numMag x : Int) else (numMag x : Int)

/-- A NUM from its sign and its bits 62:0. -/
def packNum (neg : Bool) (low : Nat) : NUM := BitVec.ofNat 64 ((if neg then 2 ^ 63 else 0) + low)

/-- Bits 62:0 of an infinity. -/
def infField : Nat := 2047 * 2 ^ 52

/-- The NaN an operation produces: a free value, but a NaN (U4, log 6). -/
def producedNaN (op : NumOp) (a b : NUM) : NUM :=
  let f := Config.producedNaN op a b
  if isNaN f then f else 0x7FF8000000000000#64

/-- `n / d` rounded to the nearest integer, ties to even. -/
def roundDiv (n d : Nat) : Nat :=
  let q := n / d
  let r := n % d
  if 2 * r < d then q else if d < 2 * r then q + 1 else q + q % 2

/-- The NUM nearest to `n / d` units of 2^-1074, ties to even, with the given sign; infinity from the first value
that rounds beyond the largest finite NUM (R7, D2, R243). `2^k` units is the distance between neighbours
at that size; the integer `k·2^52 + r` is then the result's bits 62:0, also when `r` carries to the next size. -/
def roundUnits (neg : Bool) (n d : Nat) : NUM :=
  let k := (n / d).log2 - 52
  let low := k * 2 ^ 52 + roundDiv n (d * 2 ^ k)
  packNum neg (if infField ≤ low then infField else low)

/-- `−v`: the sign bit flipped (R11). -/
def fneg (a : NUM) : NUM := a ^^^ 0x8000000000000000#64

/-- `abs(a)`: the sign bit cleared (R11). -/
def fabs (a : NUM) : NUM := a &&& 0x7FFFFFFFFFFFFFFF#64

/-- `a + b` (R11). An exact zero sum is `+0.0`, but `−0.0` when both operands are `−0.0`. -/
def fadd (a b : NUM) : NUM :=
  if isNaN a || isNaN b then producedNaN .add a b
  else if isInf a then (if isInf b && signBit a != signBit b then producedNaN .add a b else a)
  else if isInf b then b
  else
    let s := numFix a + numFix b
    if s = 0 then packNum (signBit a && signBit b) 0 else roundUnits (s < 0) s.natAbs 1

/-- `a − b` (R11): IEEE 754 defines it as the sum with the sign-flipped operand (log 21). -/
def fsub (a b : NUM) : NUM := fadd a (fneg b)

/-- `a * b` (R11); `0 * Inf` is a NaN (U4). -/
def fmul (a b : NUM) : NUM :=
  let neg := signBit a != signBit b
  if isNaN a || isNaN b then producedNaN .mul a b
  else if isInf a then (if isFinite b && numMag b == 0 then producedNaN .mul a b else packNum neg infField)
  else if isInf b then (if numMag a == 0 then producedNaN .mul a b else packNum neg infField)
  else roundUnits neg (numMag a * numMag b) (2 ^ 1074)

/-- `a / b` (R11); `0 / 0` and `Inf / Inf` are NaN, another value divided by zero is an infinity. -/
def fdiv (a b : NUM) : NUM :=
  let neg := signBit a != signBit b
  if isNaN a || isNaN b then producedNaN .div a b
  else if isInf a then (if isInf b then producedNaN .div a b else packNum neg infField)
  else if isInf b then packNum neg 0
  else if numMag b = 0 then (if numMag a = 0 then producedNaN .div a b else packNum neg infField)
  else roundUnits neg (numMag a * 2 ^ 1074) (numMag b)

/-- The order of the NUMs that are no NaN, infinities included, as an integer: `+0.0` and `−0.0` have the same
(R94: bits 62:0 rise with the absolute value). -/
def numKey (x : NUM) : Int := if signBit x then -(magField x : Int) else (magField x : Int)

/-- `a < b`: false whenever an operand is NaN (R11). -/
def flt (a b : NUM) : Bool := !isNaN a && !isNaN b && decide (numKey a < numKey b)

/-- `a ≤ b`: false whenever an operand is NaN (R11). -/
def fle (a b : NUM) : Bool := !isNaN a && !isNaN b && decide (numKey a ≤ numKey b)

/-- `a = b`: false whenever an operand is NaN; `+0 = −0` (R11). -/
def feq (a b : NUM) : Bool := !isNaN a && !isNaN b && decide (numKey a = numKey b)

/-- `a ≠ b`: true whenever an operand is NaN (R11). -/
def fne (a b : NUM) : Bool := !feq a b

/-- `clamp(x, lo, hi)` (R12): a NaN passes. -/
def clamp (x lo hi : NUM) : NUM := if flt x lo then lo else if flt hi x then hi else x

end Sys2Proof.Machine
end

