-- ==== Sys2Proof/Machine/State.lean ====
section
/-!
DEFINITION. The state of the engine as plain data, its outputs, and the state after RESET
(spec/10_state.md R20 to R37; spec/70_reset_and_hazards.md R270).
-/

namespace Sys2Proof.Machine

/-- `S.LOCKSTATE`, the source's LockState enum; code 3 is never held (R23, log 15). -/
inductive LockState where
  | unlocked
  | freqLocked
  | phaseLocked
deriving DecidableEq, Repr

/-- `S.TGT`, the target mode (R23). -/
inductive Target where
  | frequency
  | phase
deriving DecidableEq, Repr

/-- The kinds of a control filter, codes 0 to 4 (R27); kind 5 is the auxiliary slot's one kind (R33). -/
inductive CtrlKind where
  | pid
  | i1lp1
  | i1lp2
  | i2lp1
  | i2lp2
deriving DecidableEq, Repr

/-- The coefficients of a slot: `F.NFF`, `F.NFB` and the arrays `F.FF`, `F.FB` of depth TAPS_MAX, of which only
the first `NFF` and `NFB` entries are read (R28, R30, R33). -/
structure Coefs where
  nff : Nat
  nfb : Nat
  ff : List NUM
  fb : List NUM
deriving DecidableEq, Repr

/-- The two history arrays `F.Xj`, `F.Yj` of one lowpass stage, depth TAPS_MAX, newest at index 0 (R28, R32). -/
structure History where
  x : List NUM
  y : List NUM
deriving DecidableEq, Repr

/-- A control-filter slot, `S.FREQ` or `S.PHASE` (R28). -/
structure CtrlSlot where
  /-- `F.VALID` -/
  valid : Bool
  /-- `F.KIND` -/
  kind : CtrlKind
  /-- `F.SIGN` -/
  sign : Sign
  /-- `F.KP` -/
  kp : NUM
  /-- `F.KI` -/
  ki : NUM
  /-- `F.KD` -/
  kd : NUM
  /-- `F.GAIN` -/
  gain : NUM
  /-- `F.LEAD` -/
  lead : NUM
  /-- `F.KII` -/
  kii : NUM
  /-- `F.OUT_LO` -/
  outLo : NUM
  /-- `F.OUT_HI` -/
  outHi : NUM
  /-- `F.INT_LO` -/
  intLo : NUM
  /-- `F.INT_HI` -/
  intHi : NUM
  /-- `F.NFF`, `F.NFB`, `F.FF`, `F.FB` -/
  coef : Coefs
  /-- `F.X1`, `F.Y1` -/
  h1 : History
  /-- `F.X2`, `F.Y2` -/
  h2 : History
  /-- `F.I` -/
  i : NUM
  /-- `F.II` -/
  ii : NUM
  /-- `F.EPREV` -/
  eprev : NUM
  /-- `F.DPREV` -/
  dprev : NUM
  /-- `F.LASTOUT` -/
  lastout : NUM
  /-- `F.LASTOUT_VALID` -/
  lastoutValid : Bool
deriving DecidableEq, Repr

/-- The auxiliary slot `S.AUX`, one Recursive Filter (R33). -/
structure AuxSlot where
  /-- `S.AUX.VALID` -/
  valid : Bool
  /-- `S.AUX.NFF`, `S.AUX.NFB`, `S.AUX.FF`, `S.AUX.FB` -/
  coef : Coefs
  /-- `S.AUX.X1`, `S.AUX.Y1` -/
  h1 : History
deriving DecidableEq, Repr

/-- The status of a response (R241). -/
inductive Status where
  | ok
  | designFreqError
  | designAttError
  | paramError
  | noFilter
  | actuatorDisabled
  | badCommand
  | formatError
deriving DecidableEq, Repr

/-- What an operation puts out (R64 to R67): outputs are no state of the engine; the model lists those of the
current operation, in order, in `State.out` (log 2). -/
inductive Output where
  /-- RSP: the response of one executed command (R67). -/
  | rsp (status : Status)
  /-- The pulse ACT_DISPATCH, with the value that port ACT carries at that moment (R65, log 19). -/
  | actDispatch (value : NUM)
  /-- The pulse EV_PHASE_ACQ (R66, R178). -/
  | evPhaseAcq
  /-- The pulse EV_NOT_LOCKED (R66, R213). -/
  | evNotLocked
  /-- The SAMPLE record (R64). -/
  | sample (ch1 ch2 pv ctrl : NUM) (seq : BitVec 64)
deriving DecidableEq, Repr

/-- The three operations that cross the engine's boundary (R13): what the host and the scheduler present. -/
inductive Op where
  /-- RESET with the configuration record on port CFG (R270, R271). -/
  | reset (cfg : Cfg)
  /-- ENQUEUE of one command message on port CMD (R62). -/
  | enqueue (m : Message)
  /-- TICK with the record on port TICK (R63, R93). -/
  | tick (w : TickWord)
deriving DecidableEq, Repr

/-- The whole state of the engine (R20), the parameters it was launched with (R7, R8, log 4), and the model's own two
lists `inbox` (log 1) and `out` (log 2). -/
structure State where
  /-- TAPS_MAX and CQ_DEPTH. -/
  sizes : Sizes
  /-- The CFG record sampled at RESET. -/
  cfg : Cfg
  /-- `S.LOCKSTATE` -/
  lockState : LockState
  /-- `S.TGT` -/
  tgt : Target
  /-- `S.CNT` -/
  cnt : BitVec 32
  /-- `S.SP` -/
  sp : NUM
  /-- `S.MANUAL` -/
  manual : NUM
  /-- `S.ACT_EN` -/
  actEn : Bool
  /-- `S.LP_REQ` -/
  lpReq : Bool
  /-- `S.LP_EFF` -/
  lpEff : Bool
  /-- `S.LP_PRIMED` -/
  lpPrimed : Bool
  /-- `S.PV` -/
  pv : NUM
  /-- `S.PHACC` -/
  phacc : NUM
  /-- `S.CTRL` -/
  ctrl : NUM
  /-- `S.CTRL_VALID` -/
  ctrlValid : Bool
  /-- `S.ACT` -/
  act : NUM
  /-- `S.ACT_VALID` -/
  actValid : Bool
  /-- `S.SEQ` -/
  seq : BitVec 64
  /-- `S.FREQ` -/
  freq : CtrlSlot
  /-- `S.PHASE` -/
  phase : CtrlSlot
  /-- `S.AUX` -/
  aux : AuxSlot
  /-- `S.CQ`, head first -/
  cq : List Message
  /-- The model's own: the operations the outside agents present, next first. -/
  inbox : List Op
  /-- The model's own: the outputs of the current operation, in order. -/
  out : List Output
deriving DecidableEq, Repr

/-- Why the machine stops with a fault. -/
inductive Fault where
  /-- A rule would read a filter slot whose VALID bit is 0. Raised by the sample step of TICK and by MODE B=0 in
  states that violate the invariants R25 (iv) to (vii), which no run reaches (log 14). Safe: no rule gives the
  contents of an invalid slot a meaning (R28, U3). -/
  | slotNotReady
deriving DecidableEq, Repr

/-- Why the machine gives no meaning. -/
inductive Refusal where
  /-- An instruction without a meaning; no arm of `exec` raises it. Safe. -/
  | notModelled (mnemonic : String)
  /-- A CFG record or sizes outside their constraints: "the model does not start" (U9, log 12). Raised by the step.
  Safe. -/
  | badConfig
deriving DecidableEq, Repr

/-- A coefficient record whose contents no rule reads; zero is a DESIGN CHOICE (U3, log 5). -/
def Coefs.unspecified (taps : Nat) : Coefs where
  nff := 0
  nfb := 0
  ff := List.replicate taps NUM.zero
  fb := List.replicate taps NUM.zero

/-- A history with every entry `p`. -/
def History.filled (taps : Nat) (p : NUM) : History where
  x := List.replicate taps p
  y := List.replicate taps p

/-- A control slot after RESET: `VALID = LASTOUT_VALID = 0`; every other element is unspecified (R28, R37, R270)
and zero here, a DESIGN CHOICE (U3, log 5). -/
def CtrlSlot.invalid (taps : Nat) : CtrlSlot where
  valid := false
  kind := .pid
  sign := .plus
  kp := NUM.zero
  ki := NUM.zero
  kd := NUM.zero
  gain := NUM.zero
  lead := NUM.zero
  kii := NUM.zero
  outLo := NUM.zero
  outHi := NUM.zero
  intLo := NUM.zero
  intHi := NUM.zero
  coef := Coefs.unspecified taps
  h1 := History.filled taps NUM.zero
  h2 := History.filled taps NUM.zero
  i := NUM.zero
  ii := NUM.zero
  eprev := NUM.zero
  dprev := NUM.zero
  lastout := NUM.zero
  lastoutValid := false

/-- The auxiliary slot after RESET (R33, R37; log 5). -/
def AuxSlot.invalid (taps : Nat) : AuxSlot where
  valid := false
  coef := Coefs.unspecified taps
  h1 := History.filled taps NUM.zero

/-- The state that the RESET operation leaves on an engine of the given sizes, from the configuration record on
port CFG (R37, R270, R271). Operations not yet performed stay outside (log 20). -/
def State.resetWith (sizes : Sizes) (cfg : Cfg) (inbox : List Op) : State where
  sizes := sizes
  cfg := cfg
  lockState := .unlocked
  tgt := .frequency
  cnt := 0
  sp := NUM.zero
  manual := cfg.manual0
  actEn := false
  lpReq := false
  lpEff := false
  lpPrimed := false
  pv := NUM.zero
  phacc := NUM.zero
  ctrl := NUM.zero
  ctrlValid := false
  act := NUM.zero
  actValid := false
  seq := 0
  freq := CtrlSlot.invalid sizes.tapsMax
  phase := CtrlSlot.invalid sizes.tapsMax
  aux := AuxSlot.invalid sizes.tapsMax
  cq := []
  inbox := inbox
  out := []

/-- The machine right after RESET, launched with the configuration of Config.lean (log 3), nothing presented yet. -/
def State.reset : State := State.resetWith Config.launchSizes Config.launchCfg []

end Sys2Proof.Machine
end

