-- ==== Sys2Proof/Machine/Flags.lean ====
section
/-!
DEFINITION. The status flags and level outputs, and the conditions the rules test (spec/10_state.md R24, R25;
spec/20_memory.md R65, R66; spec/43_lock_controller.md R174 to R177; spec/60_exceptions.md R241).
-/

namespace Sys2Proof.Machine

/-- The 4-bit code of a status (R92, R241). -/
def statusCode : Status → BitVec 4
  | .ok => 0
  | .designFreqError => 1
  | .designAttError => 2
  | .paramError => 3
  | .noFilter => 4
  | .actuatorDisabled => 5
  | .badCommand => 6
  | .formatError => 7

/-- The 2-bit code of a lock state (R23). -/
def lockCode : LockState → BitVec 2
  | .unlocked => 0
  | .freqLocked => 1
  | .phaseLocked => 2

/-- The 3-bit code of a kind (R27). -/
def kindCode : CtrlKind → BitVec 3
  | .pid => 0
  | .i1lp1 => 1
  | .i1lp2 => 2
  | .i2lp1 => 3
  | .i2lp2 => 4

/-- The level `LOCKED` (R24); "engaged" (R15). -/
def isLocked (s : State) : Bool := s.lockState != .unlocked

/-- The level `PHASE_LOCKED` (R24). -/
def isPhaseLocked (s : State) : Bool := s.lockState == .phaseLocked

/-- The level of port ACT (R65). -/
def actPort (s : State) : Bool × NUM := (s.actValid, s.act)

/-- The slot of the active filter: PHASE in Phase mode, FREQ otherwise (R175). -/
def activeSel (s : State) : CtrlSel := if isPhaseLocked s then .phase else .freq

/-- Pursuing phase lock: engaged, and the target mode is Phase (R176). -/
def pursuing (s : State) : Bool := isLocked s && s.tgt == .phase

/-- The in-margin test `good`: `abs(S.SP − S.PV) < CFG.MARGIN`, strict, false on a NaN (R176). -/
def inMargin (s : State) : Bool := flt (fabs (fsub s.sp s.pv)) s.cfg.margin

/-- The toggle value that SHAPE uses (R173, R174). -/
def lpInUse (s : State) : Bool :=
  match s.cfg.lpOrder with
  | .before => s.lpReq
  | .after => s.lpEff

/-- The queue holds CQ_DEPTH messages: ENQUEUE is not enabled (R62). -/
def queueFull (s : State) : Bool := s.sizes.cqDepth ≤ s.cq.length

/-- Every slot that a sample step may read is valid: R25 (iv) to (vii), and `S.PHASE` in Phase mode. It holds in every state
a run reaches (R25; log 14). -/
def slotsReady (s : State) : Bool :=
  (!isLocked s || s.freq.valid) && (!(pursuing s || isPhaseLocked s) || s.phase.valid) &&
    (!(s.lpReq || s.lpEff) || s.aux.valid)

/-- The sizes meet their constraints (R7). -/
def sizesValid (z : Sizes) : Bool := 2 ≤ z.tapsMax && z.tapsMax ≤ 255 && 1 ≤ z.cqDepth

/-- The configuration record meets its constraints: `DT` finite and positive, `1 ≤ L ≤ 2^32 − 1` (R7, R271). -/
def cfgValid (c : Cfg) : Bool :=
  isFinite c.dt && flt NUM.zero c.dt && 1 ≤ c.counterLimit && c.counterLimit ≤ 2 ^ 32 - 1

end Sys2Proof.Machine
end

