-- ==== Sys2Proof/Machine/Operands.lean ====
section
/-!
DEFINITION. The operand forms of the commands: sign, slot selection, coefficient vectors, filter parameters and
their checks (spec/30_encoding.md R84 to R86; spec/41_control_filters.md R134; spec/44_commands.md R203).
-/

namespace Sys2Proof.Machine

/-- `sgn(F) * v`: the value, or the value with its sign bit flipped (R11). -/
def signed (sign : Sign) (v : NUM) : NUM :=
  match sign with
  | .plus => v
  | .minus => fneg v

/-- The array after `A[k] <- new[k]` for every `k` below the length of `new`; the other entries keep their values
(R135, R137, log 23). -/
def overwrite (old new : List NUM) : List NUM := new ++ old.drop new.length

/-- `F.NFF <- nff; F.NFB <- nfb; F.FF[k] <- ff[k]; F.FB[k] <- fb[k]` (R135, R137, R138). -/
def loadCoefs (c : Coefs) (ff fb : List NUM) : Coefs where
  nff := ff.length
  nfb := fb.length
  ff := overwrite c.ff ff
  fb := overwrite c.fb fb

/-- The checked parameters of a `filt` command to a control slot: those of a PID, or those of a Loop kind with its
two coefficient vectors, from the payload or from the synthesizer (R135). -/
inductive FilterParams where
  | pid (p : PidParams)
  | loop (p : LoopParams) (ff fb : List NUM)
deriving DecidableEq, Repr

/-- A coefficient length that a slot can hold: `1 ≤ n ≤ TAPS_MAX` (R134). -/
def lengthFits (taps n : Nat) : Bool := 1 ≤ n && n ≤ taps

/-- Bounds in order; false if either is a NaN (R134). -/
def boundsFit (outLo outHi intLo intHi : NUM) : Bool := fle outLo outHi && fle intLo intHi

/-- The lengths of a LOAD form's vectors fit (R203). -/
def vectorsFit (taps : Nat) (ff fb : List NUM) : Bool := lengthFits taps ff.length && lengthFits taps fb.length

/-- `CHECK_PARAMS` of FILT.LOAD.PID (R203). -/
def checkPid (p : PidParams) : Bool := boundsFit p.outLo p.outHi p.intLo p.intHi

/-- The bounds part of `CHECK_PARAMS` of a Loop form (R203). -/
def checkLoop (p : LoopParams) : Bool := boundsFit p.outLo p.outHi p.intLo p.intHi

/-- `SLOT ∈ {FREQ, ALL}` (R211). -/
def selectsFreq : ResetSel → Bool
  | .freq | .all => true
  | .phase | .aux => false

/-- `SLOT ∈ {PHASE, ALL}` (R211). -/
def selectsPhase : ResetSel → Bool
  | .phase | .all => true
  | .freq | .aux => false

/-- `SLOT ∈ {AUX, ALL}` (R211). -/
def selectsAux : ResetSel → Bool
  | .aux | .all => true
  | .freq | .phase => false

end Sys2Proof.Machine
end

