-- ==== Sys2Proof/Machine/Ops.lean ====
section
/-!
DEFINITION. The shared operations on the state: outputs, acceptance and rejection of a command (the engine's only
"exception", spec/60_exceptions.md R240, R248; there is no return from it, R249), access to the slots, and the writes
of `S.CTRL` and `S.ACT` (spec/20_memory.md R65 to R67).
-/

namespace Sys2Proof.Machine

/-- What executing an instruction answers. -/
abbrev Result := Host.Outcome State Fault Refusal

/-- The operation puts out `o` after what it has put out already (R66, R67, R247). -/
def emit (s : State) (o : Output) : State := { s with out := s.out ++ [o] }

/-- A command executed: response 0 (R200 (3)). -/
def accept (s : State) : State := emit s (.rsp .ok)

/-- `raise E`, the engine's exception: no state element changes and the response carries the status; nothing is saved,
no handler runs (R11, R200, R240, R248). -/
def reject (s : State) (e : Status) : State := emit s (.rsp e)

/-- Read of a control slot (R26). -/
def ctrlSlot (s : State) (sel : CtrlSel) : CtrlSlot :=
  match sel with
  | .freq => s.freq
  | .phase => s.phase

/-- Write of a control slot (R26). -/
def setCtrlSlot (s : State) (sel : CtrlSel) (F : CtrlSlot) : State :=
  match sel with
  | .freq => { s with freq := F }
  | .phase => { s with phase := F }

/-- Write of the auxiliary slot (R33). -/
def setAux (s : State) (A : AuxSlot) : State := { s with aux := A }

/-- `S.CTRL <- v; S.CTRL_VALID <- 1` (R181, R182, R212, R213). -/
def setCtrl (s : State) (v : NUM) : State := { s with ctrl := v, ctrlValid := true }

/-- `S.ACT <- v; S.ACT_VALID <- 1; pulse ACT_DISPATCH` (R65, R181, R182, R213). -/
def dispatchAct (s : State) (v : NUM) : State := emit { s with act := v, actValid := true } (.actDispatch v)

/-- `CTRLVAL()`: the control value, or the manual value before any was written (R185). -/
def ctrlVal (s : State) : NUM := if s.ctrlValid then s.ctrl else s.manual

end Sys2Proof.Machine
end

