-- ==== Sys2Proof/Machine/ActuatorCommands.lean ====
section
/-!
DEFINITION. The two actuator commands of the engine (spec/44_commands.md R220, R221).
-/

namespace Sys2Proof.Machine

/-- ACT.FREQ: the last manually-set actuator value (R220). -/
def execActFreq (value : NUM) (s : State) : Result := .next (accept { s with manual := value })

/-- ACT.EN: the flag that engage reads (R221). -/
def execActEn (b : Bool) (s : State) : Result := .next (accept { s with actEn := b })

end Sys2Proof.Machine
end

