-- ==== Sys2Proof/Machine/RecursiveFilter.lean ====
section
/-!
DEFINITION. The Recursive Filter unit RF (spec/40_recursive_filter.md R100 to R105).
-/

namespace Sys2Proof.Machine

/-- A history register after a sample is shifted in: the new one at index 0, depth TAPS_MAX (R101 steps 1 and 5). -/
def shiftIn (taps : Nat) (v : NUM) (xs : List NUM) : List NUM := (v :: xs).take taps

/-- The sum of `cs[k] * xs[k]` over `k < n`, ascending, starting from `+0.0` (R101 steps 2 and 3). -/
def tapSum (n : Nat) (cs xs : List NUM) : NUM :=
  ((cs.zip xs).take n).foldl (fun sum p => fadd sum (fmul p.1 p.2)) NUM.zero

/-- `RF.UPDATE(F, j, x) -> y` on the stage with coefficients `c` and histories `h` (R101): the input is shifted in before
the sums, the output after them. -/
def rfUpdate (taps : Nat) (c : Coefs) (h : History) (x : NUM) : History × NUM :=
  let xs := shiftIn taps x h.x
  let sf := tapSum c.nff c.ff xs
  let sb := tapSum c.nfb c.fb h.y
  let y := fadd sf sb
  (⟨xs, shiftIn taps y h.y⟩, y)

/-- `RF.RESET(F, j, p)`: every entry of both registers becomes the padding (R104). -/
def rfReset (taps : Nat) (p : NUM) : History := History.filled taps p

end Sys2Proof.Machine
end

