-- ==== Sys2Proof/Machine/ControlFilter.lean ====
section
/-!
DEFINITION. The Control Filters unit CF: PID and the four Loop kinds, initial offset, reset, construction, replacement, in-place
update, and the auxiliary slot (spec/41_control_filters.md R120 to R138).
-/

namespace Sys2Proof.Machine

/-- `NINT(kind)`: the kind has two integrators (R27). -/
def twoIntegrators : CtrlKind → Bool
  | .pid | .i1lp1 | .i1lp2 => false
  | .i2lp1 | .i2lp2 => true

/-- `e <- sgn(F) * (sp − pv)` (R120). -/
def ctrlError (F : CtrlSlot) (sp pv : NUM) : NUM := signed F.sign (fsub sp pv)

/-- `INTSTEP(F, e)`: trapezoidal step of the first integrator, clamped (R121). -/
def intStep (dt : NUM) (F : CtrlSlot) (e : NUM) : CtrlSlot :=
  { F with i := clamp (fadd F.i (fmul (fmul (fmul NUM.half F.ki) dt) (fadd e F.eprev))) F.intLo F.intHi }

/-- The increment of `INT2STEP(F)`: `(F.KII * DT) * (F.I / F.KI)`, and `+0.0` when `F.KI` is a zero (R123). -/
def int2Inc (dt : NUM) (F : CtrlSlot) : NUM :=
  if fne F.ki NUM.zero then fmul (fmul F.kii dt) (fdiv F.i F.ki) else NUM.zero

/-- `INT2STEP(F)`: step of the second integrator, clamped to the same bounds (R123). -/
def int2Step (dt : NUM) (F : CtrlSlot) : CtrlSlot :=
  { F with ii := clamp (fadd F.ii (int2Inc dt F)) F.intLo F.intHi }

/-- The end of every update: `F.EPREV <- e; F.LASTOUT <- out; F.LASTOUT_VALID <- 1` (R122, R124). -/
def finishUpdate (F : CtrlSlot) (e out : NUM) : CtrlSlot × NUM :=
  ({ F with eprev := e, lastout := out, lastoutValid := true }, out)

/-- The blended derivative `D` of a PID, from the error of this update (R122). -/
def pidDeriv (dt : NUM) (F : CtrlSlot) (e : NUM) : NUM :=
  let draw := fdiv (fmul F.kd (fsub e F.eprev)) dt
  fadd (fmul F.lead draw) (fmul (fsub NUM.one F.lead) F.dprev)

/-- `PID.UPDATE(F, sp, pv) -> out` (R122). -/
def pidUpdate (dt : NUM) (F : CtrlSlot) (sp pv : NUM) : CtrlSlot × NUM :=
  let e := ctrlError F sp pv
  let p := fmul F.kp e
  let F1 := intStep dt F e
  let d := pidDeriv dt F e
  let out := clamp (fmul F.gain (fadd (fadd p F1.i) d)) F.outLo F.outHi
  finishUpdate { F1 with dprev := d } e out

/-- The integrator part of `LOOP.UPDATE`: `INTSTEP`, and `INT2STEP` for two integrators (R124). -/
def loopIntegrate (two : Bool) (dt : NUM) (F : CtrlSlot) (e : NUM) : CtrlSlot :=
  let F1 := intStep dt F e
  if two then int2Step dt F1 else F1

/-- The sum `acc` of the integrators of a Loop kind (R124). -/
def loopAcc (two : Bool) (F : CtrlSlot) : NUM := if two then fadd F.i F.ii else F.i

/-- The lowpass part of `LOOP.UPDATE`: one stage, or two in series with the same coefficients (R30, R124). -/
def loopLowpass (two : Bool) (taps : Nat) (F : CtrlSlot) (e : NUM) : CtrlSlot × NUM :=
  let r1 := rfUpdate taps F.coef F.h1 e
  if two then
    let r2 := rfUpdate taps F.coef F.h2 r1.2
    ({ F with h1 := r1.1, h2 := r2.1 }, r2.2)
  else ({ F with h1 := r1.1 }, r1.2)

/-- The skeleton `LOOP.UPDATE(F, sp, pv) -> out` for a kind with one or two integrators and one or two stages (R124). -/
def loopUpdate (twoInt twoLp : Bool) (taps : Nat) (dt : NUM) (F : CtrlSlot) (sp pv : NUM) : CtrlSlot × NUM :=
  let e := ctrlError F sp pv
  let F1 := loopIntegrate twoInt dt F e
  let r := loopLowpass twoLp taps F1 e
  let out := clamp (fadd (loopAcc twoInt F1) r.2) F.outLo F.outHi
  finishUpdate r.1 e out

/-- `CF.UPDATE(F, sp, pv) -> out`, by the kind of the slot (R129; R122, R125 to R128). -/
def cfUpdate (taps : Nat) (dt : NUM) (F : CtrlSlot) (sp pv : NUM) : CtrlSlot × NUM :=
  match F.kind with
  | .pid => pidUpdate dt F sp pv
  | .i1lp1 => loopUpdate false false taps dt F sp pv
  | .i1lp2 => loopUpdate false true taps dt F sp pv
  | .i2lp1 => loopUpdate true false taps dt F sp pv
  | .i2lp2 => loopUpdate true true taps dt F sp pv

/-- `CF.SETOFF(F, v)`: the seed goes to `II` of a double-integrator kind and to `I` of the others, unclamped (R131). -/
def cfSetoff (F : CtrlSlot) (v : NUM) : CtrlSlot :=
  if twoIntegrators F.kind then { F with ii := v } else { F with i := v }

/-- `CF.RESET(F, p)` (R133). -/
def cfReset (taps : Nat) (F : CtrlSlot) (p : NUM) : CtrlSlot :=
  { F with
    i := NUM.zero, ii := NUM.zero, eprev := NUM.zero, dprev := NUM.zero, lastoutValid := false,
    h1 := rfReset taps p, h2 := rfReset taps p }

/-- `SEED(F, v)`: `CF.RESET(F, +0.0)`, then `CF.SETOFF(F, v)` (R184). -/
def cfSeed (taps : Nat) (F : CtrlSlot) (v : NUM) : CtrlSlot := cfSetoff (cfReset taps F NUM.zero) v

/-- `F.SIGN` and every parameter element the kind uses, and nothing else: `CF.MUTATE(F, sign, params)` (R137). -/
def cfMutate (F : CtrlSlot) (sign : Sign) (params : FilterParams) : CtrlSlot :=
  match params with
  | .pid p =>
    { F with
      sign := sign, kp := p.kp, ki := p.ki, kd := p.kd, gain := p.gain, lead := p.lead,
      outLo := p.outLo, outHi := p.outHi, intLo := p.intLo, intHi := p.intHi }
  | .loop p ff fb =>
    { F with
      sign := sign, ki := p.ki, kii := p.kii, outLo := p.outLo, outHi := p.outHi, intLo := p.intLo,
      intHi := p.intHi, coef := loadCoefs F.coef ff fb }

/-- What a construction also writes, "so that no element of a valid slot is undefined" (R135). -/
def fillUnused (F : CtrlSlot) (params : FilterParams) : CtrlSlot :=
  match params with
  | .pid _ => { F with kii := NUM.zero, coef := loadCoefs F.coef [NUM.zero] [NUM.zero] }
  | .loop _ _ _ => { F with kp := NUM.zero, kd := NUM.zero, gain := NUM.one, lead := NUM.one }

/-- `CF.CONSTRUCT(F, kind, sign, params)` (R135); `F.LASTOUT` and the array entries beyond the lengths keep what they held
(log 23). -/
def cfConstruct (taps : Nat) (F : CtrlSlot) (kind : CtrlKind) (sign : Sign) (params : FilterParams) : CtrlSlot :=
  { fillUnused (cfMutate F sign params) params with
    kind := kind, i := NUM.zero, ii := NUM.zero, eprev := NUM.zero, dprev := NUM.zero,
    h1 := rfReset taps NUM.zero, h2 := rfReset taps NUM.zero, lastoutValid := false, valid := true }

/-- `CF.REPLACE(F, kind, sign, params)`: a new filter, seeded from the last output of the outgoing one if it has one
(R136). -/
def cfReplace (taps : Nat) (F : CtrlSlot) (kind : CtrlKind) (sign : Sign) (params : FilterParams) : CtrlSlot :=
  let new := cfConstruct taps F kind sign params
  if F.lastoutValid then cfSetoff new F.lastout else new

/-- What a `filt` command to a control slot does once its checks have passed: construct, replace or mutate (R202). -/
def cfApply (taps : Nat) (F : CtrlSlot) (kind : CtrlKind) (sign : Sign) (params : FilterParams) : CtrlSlot :=
  if !F.valid then cfConstruct taps F kind sign params
  else if F.kind != kind then cfReplace taps F kind sign params
  else cfMutate F sign params

/-- A `filt` to the auxiliary slot: the four coefficient elements; on an invalid slot also zero histories and `VALID`
(R138). -/
def auxApply (taps : Nat) (A : AuxSlot) (ff fb : List NUM) : AuxSlot :=
  if A.valid then { A with coef := loadCoefs A.coef ff fb }
  else { valid := true, coef := loadCoefs A.coef ff fb, h1 := rfReset taps NUM.zero }

end Sys2Proof.Machine
end

