-- ==== Sys2Proof/Machine/RealApprox.lean ====
section
/-!
DEFINITION. Real numbers to 192 significant bits, for the synthesizer's formulas "over the real numbers"
(spec/42_synthesizer.md, R152 to R159): a whole number times a power of two, the elementary functions by their series,
roots bit by bit. How accurate it must be: log 9.
-/

namespace Sys2Proof.Machine

/-- The real number `m · 2^e`. -/
structure Apx where
  m : Int
  e : Int
deriving DecidableEq, Repr

/-- The significant bits kept after every operation (log 9). -/
def apxBits : Nat := 192

/-- Keep `apxBits` significant bits, rounding down. -/
def apxTrim (a : Apx) : Apx :=
  let k := a.m.natAbs.log2 + 1 - apxBits
  if k = 0 then a else ⟨a.m / 2 ^ k, a.e + k⟩

def apxNat (n : Nat) : Apx := ⟨n, 0⟩

def apxNeg (a : Apx) : Apx := ⟨-a.m, a.e⟩

def apxAbs (a : Apx) : Apx := ⟨a.m.natAbs, a.e⟩

def apxAdd (a b : Apx) : Apx :=
  if a.m = 0 then b
  else if b.m = 0 then a
  else
    let e := min a.e b.e
    apxTrim ⟨a.m * 2 ^ (a.e - e).toNat + b.m * 2 ^ (b.e - e).toNat, e⟩

def apxSub (a b : Apx) : Apx := apxAdd a (apxNeg b)

def apxMul (a b : Apx) : Apx := apxTrim ⟨a.m * b.m, a.e + b.e⟩

def apxDiv (a b : Apx) : Apx :=
  let k := apxBits + b.m.natAbs.log2 + 1
  apxTrim ⟨a.m * 2 ^ k / b.m, a.e - b.e - k⟩

def apxRatio (n d : Nat) : Apx := apxDiv (apxNat n) (apxNat d)

def apxLe (a b : Apx) : Bool := 0 ≤ (apxSub b a).m

def apxMax (a b : Apx) : Apx := if apxLe a b then b else a

/-- The value of a finite NUM, exactly. -/
def apxOfNum (x : NUM) : Apx := apxTrim ⟨numFix x, -1074⟩

/-- The NUM nearest to a real (R7). -/
def numOfApx (a : Apx) : NUM :=
  let e := a.e + 1074
  if 0 ≤ e then roundUnits (a.m < 0) (a.m.natAbs * 2 ^ e.toNat) 1
  else roundUnits (a.m < 0) a.m.natAbs (2 ^ (-e).toNat)

/-- `Σ (−1)^j · power / ((2j+1) · n^(2j))` from the term `j` on: the series of the arc tangent of `1/n`, on whole
numbers. -/
def atanTerms (n : Nat) : Nat → Nat → Int → Int
  | 0, _, _ => 0
  | fuel + 1, j, power => power / (2 * j + 1) + atanTerms n fuel (j + 1) (-(power / (n * n)))

/-- π by Machin's formula `16 · atan(1/5) − 4 · atan(1/239)`, to about 250 bits. -/
def apxPi : Apx :=
  apxTrim ⟨16 * atanTerms 5 60 0 (2 ^ 256 / 5) - 4 * atanTerms 239 20 0 (2 ^ 256 / 239), -256⟩

/-- The series `term · (1 − x²/((j+1)(j+2)) + …)`, from which sine (`j = 1`) and cosine (`j = 0`) start. -/
def trigTerms (x2 : Apx) : Nat → Nat → Apx → Apx
  | 0, _, _ => apxNat 0
  | fuel + 1, j, term =>
    apxAdd term (trigTerms x2 fuel (j + 2) (apxNeg (apxDiv (apxMul term x2) (apxNat ((j + 1) * (j + 2))))))

/-- Sine of an angle of at most π. -/
def apxSin (x : Apx) : Apx := trigTerms (apxMul x x) 40 1 x

/-- Cosine of an angle of at most π. -/
def apxCos (x : Apx) : Apx := trigTerms (apxMul x x) 40 0 (apxNat 1)

/-- Tangent of an angle below π/2. -/
def apxTan (x : Apx) : Apx := apxDiv (apxSin x) (apxCos x)

/-- The largest `y` with `y^n ≤ target`, built from bit `fuel − 1` down to bit 0 on top of `y`. -/
def rootBits (n target : Nat) : Nat → Nat → Nat
  | 0, y => y
  | fuel + 1, y => rootBits n target fuel (if (y + 2 ^ fuel) ^ n ≤ target then y + 2 ^ fuel else y)

/-- The `n`-th root of the fraction `num / den`. -/
def apxRoot (n num den : Nat) : Apx :=
  let k := apxBits + 1 + (den.log2 - num.log2) / n
  let target := num * 2 ^ (n * k) / den
  ⟨rootBits n target (target.log2 / n + 1) 0, -k⟩

/-- Sum of two polynomials, constant term first. -/
def polyAdd : List Apx → List Apx → List Apx
  | [], q => q
  | p, [] => p
  | a :: p, b :: q => apxAdd a b :: polyAdd p q

/-- Product of two polynomials: convolution of the coefficient lists (R156). -/
def polyMul : List Apx → List Apx → List Apx
  | [], _ => []
  | a :: p, q => polyAdd (q.map (apxMul a)) (apxNat 0 :: polyMul p q)

/-- Binomial coefficients `C(n, 0) … C(n, n)` (R157). -/
def binomials : Nat → List Nat
  | 0 => [1]
  | n + 1 => List.zipWith (· + ·) (binomials n ++ [0]) (0 :: binomials n)

end Sys2Proof.Machine
end

