-- ==== Sys2Proof/Machine/Synthesizer.lean ====
section
/-!
DEFINITION. The Filter Synthesizer unit SYN (spec/42_synthesizer.md R150 to R161). Validation, order and the cutoff check are
decided exactly over the reals, since they compare products of powers of binary64 values (log 8). The coefficients are
free values that keep the exact ones and the frequency response of R162 within a tolerance (U2, log 7).
-/

namespace Sys2Proof.Machine

/-- `1.0` in the units of `numMag`. -/
def oneMag : Nat := 2 ^ 1074

/-- `u² − δ²` in squared units, for a ratio below 1: with `δ²` it gives `1/δ² − 1 = (u² − δ²)/δ²` (R152). -/
def lossNum (d : NUM) : Nat := oneMag ^ 2 - numMag d ^ 2

/-- `δ²` in squared units. -/
def lossDen (d : NUM) : Nat := numMag d ^ 2

/-- The validation of R151, in its order; none when every check passes. `Ωs < fs/2` is decided on the exact half. -/
def synValidate (d : DesignParams) : Option Status :=
  if !(isFinite d.wp && isFinite d.ws && isFinite d.dp && isFinite d.ds && isFinite d.g && isFinite d.fs &&
      flt NUM.zero d.fs && flt NUM.zero d.wp) then some .paramError
  else if !flt d.wp d.ws then some .designFreqError
  else if !decide (2 * numFix d.ws < numFix d.fs) then some .designFreqError
  else if !(flt NUM.zero d.ds && flt d.ds d.dp && flt d.dp NUM.one) then some .designAttError
  else none

/-- `n` is at least the real-valued order of R152: `n ≥ log10(A) / (2·log10(Ωs/Ωp))` exactly when `(Ωs/Ωp)^(2n) ≥ A`, where
`A = (1/δs² − 1)/(1/δp² − 1)` (DEDUCED, log 8). -/
def orderMeets (d : DesignParams) (n : Nat) : Bool :=
  numMag d.wp ^ (2 * n) * (lossNum d.ds * lossDen d.dp) ≤ numMag d.ws ^ (2 * n) * (lossNum d.dp * lossDen d.ds)

/-- The least order from `n` on that meets R152, among `fuel` candidates. -/
def orderFrom (d : DesignParams) : Nat → Nat → Option Nat
  | 0, _ => none
  | fuel + 1, n => if orderMeets d n then some n else orderFrom d fuel (n + 1)

/-- The order `N` of R152; none when it exceeds `TAPS_MAX − 1`. -/
def synOrder (taps : Nat) (d : DesignParams) : Option Nat := orderFrom d (taps - 1) 1

/-- `fc < fs/2`, the check of R154: with R153, `(2·Ωp/fs)^(2N) < 1/δp² − 1` (DEDUCED, log 8). -/
def cutoffFits (d : DesignParams) (n : Nat) : Bool :=
  (2 * numMag d.wp) ^ (2 * n) * lossDen d.dp < numMag d.fs ^ (2 * n) * lossNum d.dp

/-- `fc / fs`, from `fc = Ωp / (1/δp² − 1)^(1/(2N))` (R153). -/
def cutoffRatio (d : DesignParams) (n : Nat) : Apx :=
  apxMul (apxRatio (numMag d.wp) (numMag d.fs)) (apxRoot (2 * n) (lossDen d.dp) (lossNum d.dp))

/-- `c = tan(π·fc/fs)` (R155). -/
def prewarp (d : DesignParams) (n : Nat) : Apx := apxTan (apxMul apxPi (cutoffRatio d n))

/-- The denominator section of the pole pair `k`, and its gain `g_k` (R156). -/
def pairSection (c : Apx) (n k : Nat) : List Apx × Apx :=
  let gamma := apxCos (apxMul apxPi (apxRatio (2 * k + n + 1) (2 * n)))
  let c2 := apxMul c c
  let lin := apxMul (apxNat 2) (apxMul c gamma)
  let dk := apxAdd (apxSub (apxNat 1) lin) c2
  ([apxNat 1, apxDiv (apxMul (apxNat 2) (apxSub c2 (apxNat 1))) dk, apxDiv (apxAdd (apxAdd (apxNat 1) lin) c2) dk],
    apxDiv c2 dk)

/-- The section of the real pole of an odd order, and its gain `g_r` (R156). -/
def realSection (c : Apx) : List Apx × Apx :=
  let cp := apxAdd c (apxNat 1)
  ([apxNat 1, apxDiv (apxSub c (apxNat 1)) cp], apxDiv c cp)

/-- All sections of the order `n` (R156). -/
def allSections (c : Apx) (n : Nat) : List (List Apx × Apx) :=
  (List.range (n / 2)).map (pairSection c n) ++ (if n % 2 = 1 then [realSection c] else [])

/-- The denominator `A(z)`, constant term first, and the gain `K` (R156). -/
def denominator (c : Apx) (n : Nat) : List Apx × Apx :=
  (allSections c n).foldl (fun acc sec => (polyMul acc.1 sec.1, apxMul acc.2 sec.2)) ([apxNat 1], apxNat 1)

/-- `ff[k] = G·K·C(N, k)` over the reals (R157 to R159). -/
def exactFF (d : DesignParams) (n : Nat) : List Apx :=
  let gk := apxMul (apxOfNum d.g) (denominator (prewarp d n) n).2
  (binomials n).map fun b => apxMul gk (apxNat b)

/-- `fb[k] = −a[k+1]` over the reals, `k < N` (R159). -/
def exactFB (d : DesignParams) (n : Nat) : List Apx :=
  let a := (denominator (prewarp d n) n).1
  (List.range n).map fun k => apxNeg (a.getD (k + 1) (apxNat 0))

/-- The implementation's value `f` is the exact `t` up to the relative tolerance `1e−9` (U2, log 7). -/
def approximates (f : NUM) (t : Apx) : Bool :=
  isFinite f && apxLe (apxMul (apxNat (10 ^ 9)) (apxAbs (apxSub (apxOfNum f) t))) (apxAbs t)

/-- `Σ |v[k] − t[k]|`: how far a vector of NUMs is from the exact one. -/
def distance (v : List NUM) (t : List Apx) : Apx :=
  (List.zipWith (fun f x => apxAbs (apxSub (apxOfNum f) x)) v t).foldl apxAdd (apxNat 0)

/-- A lower bound of `|A|` on the unit circle, `K · 2^((N+1)/2) · min(1, c^(−N))`: there the design of R156 has
`|A|² = K² · 4^N · (x^N + (1 − x)^N · c^(−2N))` with `x = cos²(π·f/fs)` (DEDUCED, log 7). -/
def responseFloor (d : DesignParams) (n : Nat) : Apx :=
  let c := prewarp d n
  let k := apxMul (apxNat (2 ^ ((n + 1) / 2))) (denominator c n).2
  let cn := (List.replicate n c).foldl apxMul (apxNat 1)
  if apxLe cn (apxNat 1) then k else apxDiv k cn

/-- The vectors `ff`, `fb` have the frequency response of R162 up to a part in a million of `|G|`: `Σ|Δfb|` is at most `1e−6` of `|A|`, so
no pole leaves the unit circle, and `Σ|Δff|` at most `1e−6` of `|G|·|A|`; hence `|H(f)|` is within `2.1e−6·|G|` of the exact
response at every `f`, with `|H(0)| = G`, `|H(fc)| = G/√2`, the fall from 0 to `fs/2` and `|H(fs/2)| = 0` among them (log 7). -/
def keepsResponse (d : DesignParams) (n : Nat) (v : List NUM × List NUM) : Bool :=
  apxLe (apxMul (apxNat (10 ^ 6)) (distance v.1 (exactFF d n))) (apxMul (apxAbs (apxOfNum d.g)) (responseFloor d n)) &&
    apxLe (apxMul (apxNat (10 ^ 6)) (distance v.2 (exactFB d n))) (responseFloor d n)

/-- The vectors are a result of R152 to R159 "within tolerance": each coefficient up to `1e−9` (U2), and the response of R162
(log 7). -/
def acceptable (d : DesignParams) (n : Nat) (v : List NUM × List NUM) : Bool :=
  (List.zipWith approximates v.1 (exactFF d n)).all id && (List.zipWith approximates v.2 (exactFB d n)).all id &&
    keepsResponse d n v

/-- The NUMs nearest to the exact coefficients (R7, R159). -/
def nearestVectors (d : DesignParams) (n : Nat) : List NUM × List NUM :=
  ((exactFF d n).map numOfApx, (exactFB d n).map numOfApx)

/-- The vectors that an implementation's own evaluation gives, `N + 1` and `N` entries: free values (U2, log 7). -/
def freeVectors (d : DesignParams) (n : Nat) : List NUM × List NUM :=
  ((List.range (n + 1)).map (Config.synFF d.wp d.ws d.dp d.ds d.g d.fs),
    (List.range n).map (Config.synFB d.wp d.ws d.dp d.ds d.g d.fs))

/-- The vectors `ff` (N + 1 entries) and `fb` (N entries) of a design of order `n` (R159): the implementation's own where they are
acceptable (U2, R162), else the nearest NUMs (log 7). -/
def synVectors (d : DesignParams) (n : Nat) : List NUM × List NUM :=
  if acceptable d n (freeVectors d n) then freeVectors d n else nearestVectors d n

/-- `SYN.DESIGN(Ωp, Ωs, δp, δs, G, fs) -> Ok(ff, fb) | Error`, the checks in the order of R246 (R150 to R161). -/
def synDesign (taps : Nat) (d : DesignParams) : Except Status (List NUM × List NUM) :=
  match synValidate d with
  | some e => .error e
  | none =>
    match synOrder taps d with
    | none => .error .paramError
    | some n => if cutoffFits d n then .ok (synVectors d n) else .error .designFreqError

end Sys2Proof.Machine
end

