-- ==== Sys2Proof/Machine/FilterCommands.lean ====
section
/-!
DEFINITION. The commands `filt`, `lpApply` and `reset` (spec/44_commands.md R202 to R211, R225 to R230).
-/

namespace Sys2Proof.Machine

/-- A `filt` to a control slot after its checks: construct, replace or mutate, and the response 0 (R202). -/
def filtApply (s : State) (slot : CtrlSel) (kind : CtrlKind) (sign : Sign) (params : FilterParams) : State :=
  accept (setCtrlSlot s slot (cfApply s.sizes.tapsMax (ctrlSlot s slot) kind sign params))

/-- A LOAD form of a Loop kind: the checks of R203, then R202. -/
def filtLoadLoop (kind : CtrlKind) (slot : CtrlSel) (sign : Sign) (p : LoopParams) (ff fb : List NUM) (s : State) :
    Result :=
  if vectorsFit s.sizes.tapsMax ff fb && checkLoop p then .next (filtApply s slot kind sign (.loop p ff fb))
  else .next (reject s .paramError)

/-- A DESIGN form of a Loop kind: the bounds checks, then the synthesizer's, then R202 (R203, R230, R246). -/
def filtDesignLoop (kind : CtrlKind) (slot : CtrlSel) (sign : Sign) (p : LoopParams) (d : DesignParams) (s : State) :
    Result :=
  if checkLoop p then
    match synDesign s.sizes.tapsMax d with
    | .error e => .next (reject s e)
    | .ok v => .next (filtApply s slot kind sign (.loop p v.1 v.2))
  else .next (reject s .paramError)

/-- A `filt` to the auxiliary slot after its checks (R138, R209, R229). -/
def auxLoad (s : State) (ff fb : List NUM) : State :=
  accept (setAux s (auxApply s.sizes.tapsMax s.aux ff fb))

/-- FILT.LOAD.PID (R204). -/
def execFiltLoadPid (slot : CtrlSel) (sign : Sign) (p : PidParams) (s : State) : Result :=
  if checkPid p then .next (filtApply s slot .pid sign (.pid p)) else .next (reject s .paramError)

/-- FILT.LOAD.I1LP1 (R205). -/
def execFiltLoadI1LP1 (slot : CtrlSel) (sign : Sign) (p : LoopParams) (ff fb : List NUM) (s : State) : Result :=
  filtLoadLoop .i1lp1 slot sign p ff fb s

/-- FILT.LOAD.I1LP2 (R206). -/
def execFiltLoadI1LP2 (slot : CtrlSel) (sign : Sign) (p : LoopParams) (ff fb : List NUM) (s : State) : Result :=
  filtLoadLoop .i1lp2 slot sign p ff fb s

/-- FILT.LOAD.I2LP1 (R207). -/
def execFiltLoadI2LP1 (slot : CtrlSel) (sign : Sign) (p : LoopParams) (ff fb : List NUM) (s : State) : Result :=
  filtLoadLoop .i2lp1 slot sign p ff fb s

/-- FILT.LOAD.I2LP2 (R208). -/
def execFiltLoadI2LP2 (slot : CtrlSel) (sign : Sign) (p : LoopParams) (ff fb : List NUM) (s : State) : Result :=
  filtLoadLoop .i2lp2 slot sign p ff fb s

/-- FILT.LOAD.LP (R209). -/
def execFiltLoadLP (ff fb : List NUM) (s : State) : Result :=
  if vectorsFit s.sizes.tapsMax ff fb then .next (auxLoad s ff fb) else .next (reject s .paramError)

/-- FILT.DESIGN.I1LP1 (R225). -/
def execFiltDesignI1LP1 (slot : CtrlSel) (sign : Sign) (p : LoopParams) (d : DesignParams) (s : State) : Result :=
  filtDesignLoop .i1lp1 slot sign p d s

/-- FILT.DESIGN.I1LP2 (R226). -/
def execFiltDesignI1LP2 (slot : CtrlSel) (sign : Sign) (p : LoopParams) (d : DesignParams) (s : State) : Result :=
  filtDesignLoop .i1lp2 slot sign p d s

/-- FILT.DESIGN.I2LP1 (R227). -/
def execFiltDesignI2LP1 (slot : CtrlSel) (sign : Sign) (p : LoopParams) (d : DesignParams) (s : State) : Result :=
  filtDesignLoop .i2lp1 slot sign p d s

/-- FILT.DESIGN.I2LP2 (R228). -/
def execFiltDesignI2LP2 (slot : CtrlSel) (sign : Sign) (p : LoopParams) (d : DesignParams) (s : State) : Result :=
  filtDesignLoop .i2lp2 slot sign p d s

/-- FILT.DESIGN.LP (R229). -/
def execFiltDesignLP (d : DesignParams) (s : State) : Result :=
  match synDesign s.sizes.tapsMax d with
  | .error e => .next (reject s e)
  | .ok v => .next (auxLoad s v.1 v.2)

/-- LPAPPLY (R210). -/
def execLpApply (b : Bool) (s : State) : Result :=
  if b && !s.aux.valid then .next (reject s .noFilter) else .next (accept { s with lpReq := b })

/-- `CF.RESET` of a control slot if it is selected and valid (R211). -/
def resetIf (taps : Nat) (selected : Bool) (F : CtrlSlot) (p : NUM) : CtrlSlot :=
  if selected && F.valid then cfReset taps F p else F

/-- `RF.RESET` of the auxiliary slot if it is selected and valid (R211). -/
def resetAuxIf (taps : Nat) (selected : Bool) (A : AuxSlot) (p : NUM) : AuxSlot :=
  if selected && A.valid then { A with h1 := rfReset taps p } else A

/-- The RESET command; an invalid slot is skipped (R211). -/
def execReset (sel : ResetSel) (padding : NUM) (s : State) : Result :=
  let taps := s.sizes.tapsMax
  .next (accept
    { s with
      freq := resetIf taps (selectsFreq sel) s.freq padding
      phase := resetIf taps (selectsPhase sel) s.phase padding
      aux := resetAuxIf taps (selectsAux sel) s.aux padding })

end Sys2Proof.Machine
end

