-- ==== Sys2Proof/Machine/ForeignCommands.lean ====
section
/-!
DEFINITION. The ten foreign commands: decoded by DEV and CMD alone, accepted with status 0 and no effect
(spec/44_commands.md R224; spec/00_scope.md R5).
-/

namespace Sys2Proof.Machine

/-- ACQ.RATE: the 24 low header bits and the payload are not read (R224). -/
def execAcqRate (_low : BitVec 24) (_pay : List NUM) (s : State) : Result := .next (accept s)

/-- ACQ.CHANNELS: the 24 low header bits and the payload are not read (R224). -/
def execAcqChannels (_low : BitVec 24) (_pay : List NUM) (s : State) : Result := .next (accept s)

/-- ACQ.CONNECT: the 24 low header bits and the payload are not read (R224). -/
def execAcqConnect (_low : BitVec 24) (_pay : List NUM) (s : State) : Result := .next (accept s)

/-- ACQ.DISCONNECT: the 24 low header bits and the payload are not read (R224). -/
def execAcqDisconnect (_low : BitVec 24) (_pay : List NUM) (s : State) : Result := .next (accept s)

/-- ACQ.DEVICES: the 24 low header bits and the payload are not read (R224). -/
def execAcqDevices (_low : BitVec 24) (_pay : List NUM) (s : State) : Result := .next (accept s)

/-- ACT.AMP: the 24 low header bits and the payload are not read (R224). -/
def execActAmp (_low : BitVec 24) (_pay : List NUM) (s : State) : Result := .next (accept s)

/-- ACT.PHASE: the 24 low header bits and the payload are not read (R224). -/
def execActPhase (_low : BitVec 24) (_pay : List NUM) (s : State) : Result := .next (accept s)

/-- ACT.CONNECT: the 24 low header bits and the payload are not read (R224). -/
def execActConnect (_low : BitVec 24) (_pay : List NUM) (s : State) : Result := .next (accept s)

/-- ACT.DISCONNECT: the 24 low header bits and the payload are not read (R224). -/
def execActDisconnect (_low : BitVec 24) (_pay : List NUM) (s : State) : Result := .next (accept s)

/-- ACT.DEVICES: the 24 low header bits and the payload are not read (R224). -/
def execActDevices (_low : BitVec 24) (_pay : List NUM) (s : State) : Result := .next (accept s)

end Sys2Proof.Machine
end

