-- ==== Sys2Proof/Machine/LockController.lean ====
section
/-!
DEFINITION. The Lock Controller unit LC: the sample step of TICK, step by step (spec/43_lock_controller.md R173 to R185).
-/

namespace Sys2Proof.Machine

/-- `SEED(F, v)` on a control slot of the state (R184). -/
def seedSlot (s : State) (sel : CtrlSel) (v : NUM) : State :=
  setCtrlSlot s sel (cfSeed s.sizes.tapsMax (ctrlSlot s sel) v)

/-- The auxiliary stage before its update in SHAPE: padded with `avg` on the first filtered tick (R173). -/
def primeAux (s : State) (avg : NUM) : AuxSlot :=
  if s.lpPrimed then s.aux else { s.aux with h1 := rfReset s.sizes.tapsMax avg }

/-- `SHAPE(avg)`: the process variable, through the auxiliary lowpass if the toggle in use is on (R173, R174). -/
def shape (s : State) (avg : NUM) : State :=
  if lpInUse s then
    let A := primeAux s avg
    let r := rfUpdate s.sizes.tapsMax A.coef A.h1 avg
    { s with aux := { A with h1 := r.1 }, pv := r.2, lpPrimed := true, lpEff := s.lpReq }
  else { s with pv := avg, lpPrimed := false, lpEff := s.lpReq }

/-- The hysteresis counter after one tick of pursuit: up in margin, down otherwise, held at 0 and at `L` (R177). -/
def countStep (s : State) : State :=
  if inMargin s then
    if s.cnt.toNat < s.cfg.counterLimit then { s with cnt := s.cnt + 1 } else s
  else
    if 0 < s.cnt.toNat then { s with cnt := s.cnt - 1 } else s

/-- Phase acquisition: seed the phase filter, clear the accumulator, enter PhaseLocked, notify (R178). -/
def acquirePhase (s : State) : State :=
  emit { seedSlot s .phase (ctrlVal s) with phacc := NUM.zero, lockState := .phaseLocked } .evPhaseAcq

/-- Fall-back to Frequency mode: seed the frequency filter from the control value (R179, R216). -/
def fallBack (s : State) : State := { seedSlot s .freq (ctrlVal s) with lockState := .freqLocked }

/-- The transition after the counter update: acquisition at `L`, fall-back at 0, else none (R178, R179). -/
def lockTransition (s : State) : State :=
  match s.lockState with
  | .freqLocked => if s.cnt.toNat = s.cfg.counterLimit then acquirePhase s else s
  | .phaseLocked => if s.cnt.toNat = 0 then fallBack s else s
  | .unlocked => s

/-- `HYSTERESIS()`: nothing moves unless phase lock is pursued (R176 to R179). -/
def hysteresis (s : State) : State := if pursuing s then lockTransition (countStep s) else s

/-- The accumulator part of `PHASE_INTEGRATE()` (R180). -/
def phaseIntegrate (s : State) : State :=
  if isPhaseLocked s then { s with phacc := fadd s.phacc (fmul (fsub s.pv s.sp) s.cfg.dt) } else s

/-- The value of `PHASE_INTEGRATE()`, what the active filter consumes (R180). -/
def shapedPv (s : State) : NUM := if isPhaseLocked s then s.phacc else s.pv

/-- `CONTROL_LOCKED(shaped)`: update the active filter and dispatch its output (R181). -/
def controlLocked (s : State) : State :=
  let r := cfUpdate s.sizes.tapsMax s.cfg.dt (ctrlSlot s (activeSel s)) s.sp (shapedPv s)
  dispatchAct (setCtrl (setCtrlSlot s (activeSel s) r.1) r.2) r.2

/-- `CONTROL_UNLOCKED()`: the manual value straight through (R182). -/
def controlUnlocked (s : State) : State := dispatchAct (setCtrl s s.manual) s.manual

/-- Steps 4 and 5 of a tick (R170). -/
def controlStep (s : State) : State := if isLocked s then controlLocked s else controlUnlocked s

/-- `EMIT_SAMPLE(ch1, ch2)`; the index wraps modulo 2^64 (R183). -/
def emitSample (s : State) (ch1 ch2 : NUM) : State :=
  { emit s (.sample ch1 ch2 s.pv s.ctrl s.seq) with seq := s.seq + 1 }

/-- The sample step of a TICK with a new sample: SHAPE, HYSTERESIS, PHASE_INTEGRATE, control, EMIT_SAMPLE (R170). -/
def sampleStep (s : State) (ch1 ch2 avg : NUM) : State :=
  emitSample (controlStep (phaseIntegrate (hysteresis (shape s avg)))) ch1 ch2

end Sys2Proof.Machine
end

