-- ==== Sys2Proof/Machine/LockCommands.lean ====
section
/-!
DEFINITION. The commands `lock`, `sp` and `mode` (spec/44_commands.md R212 to R216).
-/

namespace Sys2Proof.Machine

/-- What engage writes once its preconditions hold: the frequency filter seeded from the manual value, `S.CTRL` at that value,
accumulator and counter cleared, FrequencyLocked (R212). -/
def engage (s : State) : State :=
  { setCtrl (seedSlot s .freq s.manual) s.manual with phacc := NUM.zero, cnt := 0, lockState := .freqLocked }

/-- LOCK B=1, engage: no effect when engaged; the checks in the order of R212 (R246). -/
def execLockB1 (s : State) : Result :=
  if isLocked s then .next (accept s)
  else if !s.freq.valid then .next (reject s .noFilter)
  else if s.tgt == .phase && !s.phase.valid then .next (reject s .noFilter)
  else if !s.actEn then .next (reject s .actuatorDisabled)
  else .next (accept (engage s))

/-- What disengage does, in every lock state: Unlocked, counter 0, the manual value to `S.CTRL` and to the actuator, and the
notification (R213). -/
def disengage (s : State) : State :=
  emit (dispatchAct (setCtrl { s with lockState := .unlocked, cnt := 0 } s.manual) s.manual) .evNotLocked

/-- LOCK B=0, disengage (R213). -/
def execLockB0 (s : State) : Result := .next (accept (disengage s))

/-- SP: any NUM is stored (R214). -/
def execSp (setpoint : NUM) (s : State) : Result := .next (accept { s with sp := setpoint })

/-- MODE B=1, target Phase (R215). -/
def execModeB1 (s : State) : Result :=
  if isLocked s && !s.phase.valid then .next (reject s .noFilter) else .next (accept { s with tgt := .phase })

/-- MODE B=0, target Frequency; an engine in Phase mode falls back at once (R216). Its frequency slot is valid in every state a
run reaches (R25 (iv)); seeding an invalid one is a fault (log 14). -/
def execModeB0 (s : State) : Result :=
  let s1 := { s with tgt := .frequency, cnt := 0 }
  if isPhaseLocked s then
    if s.freq.valid then .next (accept (fallBack s1)) else .fault .slotNotReady
  else .next (accept s1)

end Sys2Proof.Machine
end

