-- ==== Sys2Proof/Machine/CommandPort.lean ====
section
/-!
DEFINITION. Execution of queued command messages: EXEC and the drain phase of TICK (spec/44_commands.md R200, R201;
spec/43_lock_controller.md R171).
-/

namespace Sys2Proof.Machine

/-- Step (2) of EXEC: the rule of the decoded command (R200). The same meanings as `exec`'s arms, for the commands alone (log 17);
no message decodes to TICK (R89), and that arm answers what a reserved header gets. -/
def execCommand (i : Instr) (s : State) : Result :=
  match i with
  | .acqRate low pay => execAcqRate low pay s
  | .acqChannels low pay => execAcqChannels low pay s
  | .acqConnect low pay => execAcqConnect low pay s
  | .acqDisconnect low pay => execAcqDisconnect low pay s
  | .acqDevices low pay => execAcqDevices low pay s
  | .actFreq value => execActFreq value s
  | .actAmp low pay => execActAmp low pay s
  | .actPhase low pay => execActPhase low pay s
  | .actEn b => execActEn b s
  | .actConnect low pay => execActConnect low pay s
  | .actDisconnect low pay => execActDisconnect low pay s
  | .actDevices low pay => execActDevices low pay s
  | .filtLoadPid slot sign p => execFiltLoadPid slot sign p s
  | .filtLoadI1LP1 slot sign p ff fb => execFiltLoadI1LP1 slot sign p ff fb s
  | .filtLoadI1LP2 slot sign p ff fb => execFiltLoadI1LP2 slot sign p ff fb s
  | .filtLoadI2LP1 slot sign p ff fb => execFiltLoadI2LP1 slot sign p ff fb s
  | .filtLoadI2LP2 slot sign p ff fb => execFiltLoadI2LP2 slot sign p ff fb s
  | .filtLoadLP ff fb => execFiltLoadLP ff fb s
  | .filtDesignI1LP1 slot sign p d => execFiltDesignI1LP1 slot sign p d s
  | .filtDesignI1LP2 slot sign p d => execFiltDesignI1LP2 slot sign p d s
  | .filtDesignI2LP1 slot sign p d => execFiltDesignI2LP1 slot sign p d s
  | .filtDesignI2LP2 slot sign p d => execFiltDesignI2LP2 slot sign p d s
  | .filtDesignLP d => execFiltDesignLP d s
  | .lpApply b => execLpApply b s
  | .reset sel padding => execReset sel padding s
  | .lockB0 => execLockB0 s
  | .lockB1 => execLockB1 s
  | .sp setpoint => execSp setpoint s
  | .modeB0 => execModeB0 s
  | .modeB1 => execModeB1 s
  | .tick _ _ _ _ => .next (reject s .badCommand)

/-- The status of a decode error (R201). -/
def decodeStatus : DecodeError → Status
  | .badCommand => .badCommand
  | .formatError => .formatError

/-- `EXEC(msg)` with its response: decode, then the command's rule; a decode error is the status and changes no state element
(R200, R201). -/
def execMessage (m : Message) (s : State) : Result :=
  match decodeMessage m with
  | .error e => .next (reject s (decodeStatus e))
  | .ok i => execCommand i s

/-- The drain phase over the messages of the queue, head first: each is removed, then executed (R171). -/
def drain : List Message → State → Result
  | [], s => .next { s with cq := [] }
  | m :: rest, s =>
    match execMessage m { s with cq := rest } with
    | .next t => drain rest t
    | .fault r => .fault r
    | .refused r => .refused r

end Sys2Proof.Machine
end

