-- ==== Sys2Proof/Machine/Tick.lean ====
section
/-!
DEFINITION. The TICK operation (spec/43_lock_controller.md R170 to R172).
-/

namespace Sys2Proof.Machine

/-- What TICK does after the drain phase: nothing without a new sample, else the sample step (R170, R172). The slots the sample
step may read are valid in every state a run reaches; otherwise it is a fault (R25, log 14). -/
def afterDrain (isNew : Bool) (ch1 ch2 avg : NUM) (s : State) : Result :=
  if !isNew then .next s
  else if slotsReady s then .next (sampleStep s ch1 ch2 avg)
  else .fault .slotNotReady

/-- `TICK(rec)`: the drain phase, then the sample step (R170). -/
def execTick (isNew : Bool) (ch1 ch2 avg : NUM) (s : State) : Result :=
  match drain s.cq s with
  | .next t => afterDrain isNew ch1 ch2 avg t
  | .fault r => .fault r
  | .refused r => .refused r

end Sys2Proof.Machine
end

