-- ==== Sys2Proof/Machine/Dispatch.lean ====
section
/-!
DEFINITION. One arm per constructor of Instr: each instruction's meaning (spec/opcode_table.json).
-/

namespace Sys2Proof.Machine

open Sys2Proof

/-- The meaning of every instruction. -/
def exec (i : Instr) (s : State) : Host.Outcome State Fault Refusal :=
  match i with
  | .acqRate low pay => Sys2Proof.Machine.execAcqRate low pay s
  | .acqChannels low pay => Sys2Proof.Machine.execAcqChannels low pay s
  | .acqConnect low pay => Sys2Proof.Machine.execAcqConnect low pay s
  | .acqDisconnect low pay => Sys2Proof.Machine.execAcqDisconnect low pay s
  | .acqDevices low pay => Sys2Proof.Machine.execAcqDevices low pay s
  | .actFreq value => Sys2Proof.Machine.execActFreq value s
  | .actAmp low pay => Sys2Proof.Machine.execActAmp low pay s
  | .actPhase low pay => Sys2Proof.Machine.execActPhase low pay s
  | .actEn b => Sys2Proof.Machine.execActEn b s
  | .actConnect low pay => Sys2Proof.Machine.execActConnect low pay s
  | .actDisconnect low pay => Sys2Proof.Machine.execActDisconnect low pay s
  | .actDevices low pay => Sys2Proof.Machine.execActDevices low pay s
  | .filtLoadPid slot sign p => Sys2Proof.Machine.execFiltLoadPid slot sign p s
  | .filtLoadI1LP1 slot sign p ff fb => Sys2Proof.Machine.execFiltLoadI1LP1 slot sign p ff fb s
  | .filtLoadI1LP2 slot sign p ff fb => Sys2Proof.Machine.execFiltLoadI1LP2 slot sign p ff fb s
  | .filtLoadI2LP1 slot sign p ff fb => Sys2Proof.Machine.execFiltLoadI2LP1 slot sign p ff fb s
  | .filtLoadI2LP2 slot sign p ff fb => Sys2Proof.Machine.execFiltLoadI2LP2 slot sign p ff fb s
  | .filtLoadLP ff fb => Sys2Proof.Machine.execFiltLoadLP ff fb s
  | .filtDesignI1LP1 slot sign p d => Sys2Proof.Machine.execFiltDesignI1LP1 slot sign p d s
  | .filtDesignI1LP2 slot sign p d => Sys2Proof.Machine.execFiltDesignI1LP2 slot sign p d s
  | .filtDesignI2LP1 slot sign p d => Sys2Proof.Machine.execFiltDesignI2LP1 slot sign p d s
  | .filtDesignI2LP2 slot sign p d => Sys2Proof.Machine.execFiltDesignI2LP2 slot sign p d s
  | .filtDesignLP d => Sys2Proof.Machine.execFiltDesignLP d s
  | .lpApply b => Sys2Proof.Machine.execLpApply b s
  | .reset sel padding => Sys2Proof.Machine.execReset sel padding s
  | .lockB0 => Sys2Proof.Machine.execLockB0 s
  | .lockB1 => Sys2Proof.Machine.execLockB1 s
  | .sp setpoint => Sys2Proof.Machine.execSp setpoint s
  | .modeB0 => Sys2Proof.Machine.execModeB0 s
  | .modeB1 => Sys2Proof.Machine.execModeB1 s
  | .tick isNew ch1 ch2 avg => Sys2Proof.Machine.execTick isNew ch1 ch2 avg s

end Sys2Proof.Machine
end

