-- ==== Sys2Proof/Machine/Ports.lean ====
section
/-!
DEFINITION. The input ports: which operation comes next, and what RESET and ENQUEUE do (spec/00_scope.md R13;
spec/20_memory.md R62, R63, R68; spec/70_reset_and_hazards.md R270, R271).
-/

namespace Sys2Proof.Machine

/-- The next operation that is enabled, and the operations left. ENQUEUE is not enabled while the queue is full: the host
waits with it, and with the messages behind it, until a TICK or a RESET (R62, U6, log 10). -/
def nextOp (full : Bool) : List Op → Option (Op × List Op)
  | [] => none
  | .enqueue m :: ops =>
    if full then (nextOp full ops).map fun r => (r.1, .enqueue m :: r.2) else some (.enqueue m, ops)
  | op :: ops => some (op, ops)

/-- `ENQUEUE(msg)`: the message at the tail of the queue, and nothing else (R62). "No decoding and no check happens at ENQUEUE", so the
length bound that R80 gives the transport is not looked at either (log 11). -/
def enqueue (m : Message) (s : State) : Result := .next { s with cq := s.cq ++ [m] }

/-- RESET with the record on port CFG; a record outside its constraints does not start (R270, R271, U9, log 12). -/
def resetOp (c : Cfg) (s : State) : Result :=
  if cfgValid c then .next (State.resetWith s.sizes c s.inbox) else .refused .badConfig

/-- What the engine performs next: an operation of its own ports, done at once, or an instruction to execute. -/
inductive Fetched where
  | done (r : Result)
  | run (i : Instr) (s : State)

/-- The start of an operation: what is left is presented later, and the pulses of the operation before are gone (R66, log 2). -/
def beginOp (s : State) (rest : List Op) : State := { s with inbox := rest, out := [] }

/-- The next operation: with none presented the engine holds its state (R253, log 13); TICK is decoded from its record and run.
An engine with a configuration outside its constraints does not run (U9, log 12). -/
def fetch (s : State) : Fetched :=
  if sizesValid s.sizes && cfgValid s.cfg then
    match nextOp (queueFull s) s.inbox with
    | none => .done (.next (beginOp s s.inbox))
    | some (.reset c, rest) => .done (resetOp c (beginOp s rest))
    | some (.enqueue m, rest) => .done (enqueue m (beginOp s rest))
    | some (.tick w, rest) => .run (decodeTick w) (beginOp s rest)
  else .done (.refused .badConfig)

/-- The tick record with NEW = 0 and every NUM field zero (R63, R93). -/
def idleTick : TickWord := 0

/-- The state with the table word `w` where the next operation is taken from: a header becomes the one queued message, framed with
payload words of zeros, and a TICK without a new sample is presented to drain it; a record becomes the next TICK
(R72, R171, logs 1 and 16). -/
def placeWord (s : State) (nbits w : Nat) : State :=
  if nbits ≤ 32 then
    { s with cq := [zeroMessage (BitVec.ofNat 32 w)], inbox := .tick idleTick :: s.inbox }
  else { s with inbox := .tick (BitVec.ofNat 193 w) :: s.inbox }

end Sys2Proof.Machine
end

