-- ==== Sys2Proof/Machine/Step.lean ====
section
/-!
DEFINITION. One step of the machine: the next operation that its ports present (spec/00_scope.md R13, R14; spec/20_memory.md R68).
-/

namespace Sys2Proof.Machine

/-- One operation, whole and indivisible (R68): RESET, ENQUEUE or TICK. A command runs in the drain phase of a TICK. -/
def step (s : State) : Host.Outcome State Fault Refusal :=
  match fetch s with
  | .done r => r
  | .run i t => exec i t

/-- The state whose next step runs exactly the instruction with the table bits `w` (log 1). -/
def State.withFetchWord (s : State) (nbits w : Nat) : State := placeWord s nbits w

end Sys2Proof.Machine
end

