-- ==== Sys2Proof/Safety.lean ====
section
/-!
DEFINITION. What counts as a well-formed state and a safe run, in the terms the statements use: the invariants of spec/10_state.md R25
with the shapes of the arrays and the queue, and the real value of a NUM.
-/

namespace Sys2Proof.Machine

/-- The rational value of a finite NUM (R94). -/
def numVal (x : NUM) : ℚ := (numFix x : ℚ) / 2 ^ 1074

/-- The arrays of a slot's coefficients have the depth TAPS_MAX, and those of a valid slot the lengths `1 … TAPS_MAX`
(R28, R33, R134). -/
structure Coefs.WellFormed (taps : Nat) (valid : Bool) (c : Coefs) : Prop where
  ffDepth : c.ff.length = taps
  fbDepth : c.fb.length = taps
  nffRange : valid = true → 1 ≤ c.nff ∧ c.nff ≤ taps
  nfbRange : valid = true → 1 ≤ c.nfb ∧ c.nfb ≤ taps

/-- Both history registers have the depth TAPS_MAX (R32). -/
structure History.WellFormed (taps : Nat) (h : History) : Prop where
  xDepth : h.x.length = taps
  yDepth : h.y.length = taps

/-- A control slot's arrays have their depth, and a valid slot's bounds are in order (R28, R32, R134). -/
structure CtrlSlot.WellFormed (taps : Nat) (F : CtrlSlot) : Prop where
  coef : F.coef.WellFormed taps F.valid
  h1 : F.h1.WellFormed taps
  h2 : F.h2.WellFormed taps
  outBounds : F.valid = true → fle F.outLo F.outHi = true
  intBounds : F.valid = true → fle F.intLo F.intHi = true

/-- The auxiliary slot's arrays have their depth (R32, R33). -/
structure AuxSlot.WellFormed (taps : Nat) (A : AuxSlot) : Prop where
  coef : A.coef.WellFormed taps A.valid
  h1 : A.h1.WellFormed taps

/-- The invariants of the engine: R25 (i) to (vii), the constraints of the parameters (R7), the shapes of the slots, and the
bounds of the command queue (R35, R80). -/
structure State.Inv (s : State) : Prop where
  sizesOk : sizesValid s.sizes = true
  cfgOk : cfgValid s.cfg = true
  /-- R25 (i). -/
  cntBound : s.cnt.toNat ≤ s.cfg.counterLimit
  /-- R25 (ii). -/
  unlockedCnt : s.lockState = .unlocked → s.cnt = 0
  /-- R25 (iii). -/
  frequencyCnt : s.tgt = .frequency → s.cnt = 0
  /-- R25 (iii). -/
  frequencyLock : s.tgt = .frequency → s.lockState ≠ .phaseLocked
  /-- R25 (iv). -/
  lockedFreq : s.lockState ≠ .unlocked → s.freq.valid = true
  /-- R25 (v). -/
  lockedPhase : s.lockState ≠ .unlocked → s.tgt = .phase → s.phase.valid = true
  /-- R25 (vi). -/
  requestedAux : s.lpReq = true → s.aux.valid = true
  /-- R25 (vii). -/
  effectiveAux : s.lpEff = true → s.aux.valid = true
  freqSlot : s.freq.WellFormed s.sizes.tapsMax
  phaseSlot : s.phase.WellFormed s.sizes.tapsMax
  auxSlot : s.aux.WellFormed s.sizes.tapsMax
  queueBound : s.cq.length ≤ s.sizes.cqDepth

/-- A step is safe: it does not fault, so no rule reads a slot whose VALID bit is 0 (R28). -/
def Safe (r : Result) : Prop := ∀ f, r ≠ .fault f

/-- `r` is the exact value `q` rounded to nearest, ties to even (R7, D2): the nearest finite NUM while one is near enough, and of two
equally near ones the one with an even fraction; otherwise an infinity; with the sign of `q`. -/
def RoundsTo (q : ℚ) (r : NUM) : Prop :=
  (|q| < 2 ^ 1024 - 2 ^ 970 → isFinite r = true ∧
    ∀ y : NUM, isFinite y = true →
      |numVal r - q| ≤ |numVal y - q| ∧
        (|numVal y - q| = |numVal r - q| → numVal y ≠ numVal r → fracField r % 2 = 0)) ∧
  (2 ^ 1024 - 2 ^ 970 ≤ |q| → isInf r = true) ∧
  (q < 0 → signBit r = true) ∧ (0 < q → signBit r = false)

/-- The opcode row of a command (R83, R84, R85); none for the TICK record. -/
def opcodeOf : Instr → Option Opcode
  | .acqRate _ _ => some .acqRate
  | .acqChannels _ _ => some .acqChannels
  | .acqConnect _ _ => some .acqConnect
  | .acqDisconnect _ _ => some .acqDisconnect
  | .acqDevices _ _ => some .acqDevices
  | .actFreq _ => some .actFreq
  | .actAmp _ _ => some .actAmp
  | .actPhase _ _ => some .actPhase
  | .actEn _ => some .actEn
  | .actConnect _ _ => some .actConnect
  | .actDisconnect _ _ => some .actDisconnect
  | .actDevices _ _ => some .actDevices
  | .filtLoadPid _ _ _ => some .filtLoadPid
  | .filtLoadI1LP1 _ _ _ _ _ => some .filtLoadI1LP1
  | .filtLoadI1LP2 _ _ _ _ _ => some .filtLoadI1LP2
  | .filtLoadI2LP1 _ _ _ _ _ => some .filtLoadI2LP1
  | .filtLoadI2LP2 _ _ _ _ _ => some .filtLoadI2LP2
  | .filtLoadLP _ _ => some .filtLoadLP
  | .filtDesignI1LP1 _ _ _ _ => some .filtDesignI1LP1
  | .filtDesignI1LP2 _ _ _ _ => some .filtDesignI1LP2
  | .filtDesignI2LP1 _ _ _ _ => some .filtDesignI2LP1
  | .filtDesignI2LP2 _ _ _ _ => some .filtDesignI2LP2
  | .filtDesignLP _ => some .filtDesignLP
  | .lpApply _ => some .lpApply
  | .reset _ _ => some .reset
  | .lockB0 => some .lockB0
  | .lockB1 => some .lockB1
  | .sp _ => some .sp
  | .modeB0 => some .modeB0
  | .modeB1 => some .modeB1
  | .tick _ _ _ _ => none

/-- Two states of one slot with the same kind, sign, gains, bounds, coefficients and `VALID`: only accumulators, histories and last
output may differ (R28). -/
def sameParameters (F G : CtrlSlot) : Prop :=
  F.valid = G.valid ∧ F.kind = G.kind ∧ F.sign = G.sign ∧ F.kp = G.kp ∧ F.ki = G.ki ∧ F.kd = G.kd ∧ F.gain = G.gain ∧
    F.lead = G.lead ∧ F.kii = G.kii ∧ F.outLo = G.outLo ∧ F.outHi = G.outHi ∧ F.intLo = G.intLo ∧ F.intHi = G.intHi ∧
    F.coef = G.coef

/-- The output is a response on port RSP (R67). -/
def isResponse : Output → Bool
  | .rsp _ => true
  | _ => false

/-- The output is a SAMPLE record (R64). -/
def isSample : Output → Bool
  | .sample _ _ _ _ _ => true
  | _ => false

/-- A command of the queue, not the TICK record (R13). -/
def isCommand : Instr → Bool
  | .tick _ _ _ _ => false
  | _ => true

end Sys2Proof.Machine
end

