-- ==== Sys2Proof/Certificates/Slice0/Obligations.lean ====
section
/-!
DEFINITION. The statements for the provers: what the numbered rules of spec/ say of decoding, the three operations, the commands, the
synthesizer, TICK, the filters, the invariants and NUM arithmetic. `OBLIGATIONS.json` lists them.
-/

open Sys2Proof Sys2Proof.Machine

/-! ### Decoding and encoding -/

/-- R81, R84, R85, R88, R93: every well-formed instruction is what its encoding decodes to. -/
def Obligations.DecodeOfEncode : Prop := ∀ i : Instr, i.wf = true → decode (encode i) = .ok i

/-- R88, R93: what decodes to an instruction is that instruction's one encoding, and the instruction is well-formed. -/
def Obligations.EncodeOfDecode : Prop :=
  ∀ (e : Encoded) (i : Instr), decode e = .ok i → i.wf = true ∧ encode i = e

/-- R88: decoding is total; the rows are disjoint; no row is BadCommand; a foreign row is decoded whatever PLEN is; another row is
decoded when PLEN is EXPLEN and is FormatError otherwise. -/
def Obligations.DecodingIsTotal : Prop :=
  ∀ (h : Header) (pay : List NUM),
    (∀ r ∈ opcodeTable, ∀ q ∈ opcodeTable, r.matches h = true → q.matches h = true → r = q) ∧
    ((∀ r ∈ opcodeTable, r.matches h = false) → decodeMessage ⟨h, pay⟩ = .error .badCommand) ∧
    ∀ r ∈ opcodeTable, r.matches h = true →
      (expLen r.op h = none → ∃ i, decodeMessage ⟨h, pay⟩ = .ok i ∧ opcodeOf i = some r.op) ∧
      (∀ n, expLen r.op h = some n → pay.length ≠ n → decodeMessage ⟨h, pay⟩ = .error .formatError) ∧
      (∀ n, expLen r.op h = some n → pay.length = n →
        ∃ i, decodeMessage ⟨h, pay⟩ = .ok i ∧ opcodeOf i = some r.op)

/-- R87: the reserved headers, spelled out field by field, and that executing one is BadCommand with no state change. -/
def Obligations.ReservedHeaders : Prop :=
  ∀ (dev cmd : BitVec 4) (slot : BitVec 2) (kind : BitVec 3) (form sign b : BitVec 1) (nff nfb : BitVec 8),
    (findOpcode (headerWord dev cmd slot kind form sign b nff nfb) = none ↔
      (dev = 0 ∨ 4 ≤ dev.toNat) ∨
      (dev = 1 ∧ 5 ≤ cmd.toNat) ∨ (dev = 2 ∧ 7 ≤ cmd.toNat) ∨ (dev = 3 ∧ 6 ≤ cmd.toNat) ∨
      (dev = 3 ∧ cmd = 0 ∧
        (6 ≤ kind.toNat ∨ (kind = 0 ∧ form = 1) ∨ (kind.toNat ≤ 4 ∧ 2 ≤ slot.toNat) ∨ (kind = 5 ∧ slot ≠ 2) ∨
          (kind = 5 ∧ sign = 1) ∨ b = 1 ∨ ((kind = 0 ∨ form = 1) ∧ (nff ≠ 0 ∨ nfb ≠ 0)))) ∨
      (dev = 3 ∧ 1 ≤ cmd.toNat ∧ cmd.toNat ≤ 5 ∧
        (kind ≠ 0 ∨ form ≠ 0 ∨ sign ≠ 0 ∨ nff ≠ 0 ∨ nfb ≠ 0 ∨ (cmd ≠ 2 ∧ slot ≠ 0) ∨
          ((cmd = 2 ∨ cmd = 4) ∧ b = 1))) ∨
      (dev = 2 ∧ (cmd = 0 ∨ cmd = 3) ∧
        (slot ≠ 0 ∨ kind ≠ 0 ∨ form ≠ 0 ∨ sign ≠ 0 ∨ nff ≠ 0 ∨ nfb ≠ 0 ∨ (cmd = 0 ∧ b = 1)))) ∧
    (findOpcode (headerWord dev cmd slot kind form sign b nff nfb) = none → ∀ (pay : List NUM) (s : State),
      execMessage ⟨headerWord dev cmd slot kind form sign b nff nfb, pay⟩ s =
        .next { s with out := s.out ++ [.rsp .badCommand] })

/-- R201: the two decode errors, the header looked at before the length, and both before the command's own checks; the response carries
the status and nothing else changes. -/
def Obligations.DecodeErrorsAnswer : Prop :=
  ∀ (h : Header) (pay : List NUM) (s : State),
    (findOpcode h = none → execMessage ⟨h, pay⟩ s = .next { s with out := s.out ++ [.rsp .badCommand] }) ∧
    (∀ op n, findOpcode h = some op → expLen op h = some n → pay.length ≠ n →
      execMessage ⟨h, pay⟩ s = .next { s with out := s.out ++ [.rsp .formatError] }) ∧
    (∀ i, decodeMessage ⟨h, pay⟩ = .ok i → execMessage ⟨h, pay⟩ s = exec i s)

/-- R89, R93 and the worked examples of R204, R205, R208, R211, R225, R229: headers written out bit by bit, and one tick record. -/
def Obligations.WordsDecode : Prop :=
  findOpcode 0b00110000010000100000000000000000#32 = some .filtLoadPid ∧
  hdrCtrlSel 0b00110000010000100000000000000000#32 = .phase ∧
  hdrSign 0b00110000010000100000000000000000#32 = .minus ∧
  findOpcode 0b00110000000010000000001000000001#32 = some .filtLoadI1LP1 ∧
  expLen .filtLoadI1LP1 0b00110000000010000000001000000001#32 = some 9 ∧
  findOpcode 0b00110000011000100000001100000010#32 = some .filtLoadI2LP2 ∧
  expLen .filtLoadI2LP2 0b00110000011000100000001100000010#32 = some 11 ∧
  decodeMessage ⟨0b00110010110000000000000000000000#32, [NUM.zero]⟩ = .ok (.reset .all NUM.zero) ∧
  findOpcode 0b00110000000011000000000000000000#32 = some .filtDesignI1LP1 ∧
  findOpcode 0b00110000101011000000000000000000#32 = some .filtDesignLP ∧
  decodeMessage ⟨0b00110011000000010000000000000000#32, []⟩ = .ok .lockB1 ∧
  decodeMessage ⟨0b00100011000000010000000000000000#32, []⟩ = .ok (.actEn true) ∧
  decodeMessage ⟨0b00010100000000000000000000000111#32, [NUM.one]⟩ = .ok (.acqDevices 7 [NUM.one]) ∧
  decodeTick 0x1000000000000000200000000000000030000000000000004#193 = .tick true 2 3 4

/-! ### The three operations -/

/-- R13, R63, R68: when a TICK is the next operation, the step executes the instruction its record decodes to, on the state in which the
operation has been taken from the port and the pulses of the operation before are gone (R66). -/
def Obligations.StepRunsTick : Prop :=
  ∀ (s : State) (w : TickWord) (rest : List Op) (i : Instr),
    sizesValid s.sizes = true → cfgValid s.cfg = true → s.inbox = .tick w :: rest →
    decode (.tickRecord w) = .ok i → step s = exec i { s with inbox := rest, out := [] }

/-- R171, R172, R200: a TICK without a new sample on a queue of one message that decodes to a well-formed command executes exactly that
command, on the state with the message removed. -/
def Obligations.StepRunsCommand : Prop :=
  ∀ (s : State) (w : TickWord) (rest : List Op) (m : Message) (i : Instr),
    sizesValid s.sizes = true → cfgValid s.cfg = true → s.inbox = .tick w :: rest → w.getLsbD 192 = false →
    s.cq = [m] → decode (.message m) = .ok i →
    step s = exec i { s with inbox := rest, out := [], cq := [] }

/-- R270, R271, R37: what the RESET operation leaves, from any state; the queue is discarded and nothing is put out. The elements of the
three slots that the rule leaves unspecified are not spoken of. That the sizes and the operations presented later stay (`t.sizes`,
`t.inbox`) and that no pulse is put out (`t.out`) are the model's choice: log 20. -/
def Obligations.ResetOperationWrites : Prop :=
  ∀ (s : State) (c : Cfg) (rest : List Op),
    sizesValid s.sizes = true → cfgValid s.cfg = true → cfgValid c = true → s.inbox = .reset c :: rest →
    ∃ t, step s = .next t ∧ t.sizes = s.sizes ∧ t.cfg = c ∧ t.inbox = rest ∧
      t.lockState = .unlocked ∧ t.tgt = .frequency ∧ t.cnt = 0 ∧ t.sp = NUM.zero ∧ t.manual = c.manual0 ∧
      t.actEn = false ∧ t.lpReq = false ∧ t.lpEff = false ∧ t.lpPrimed = false ∧ t.pv = NUM.zero ∧
      t.phacc = NUM.zero ∧ t.ctrl = NUM.zero ∧ t.ctrlValid = false ∧ t.act = NUM.zero ∧ t.actValid = false ∧
      t.seq = 0 ∧ t.freq.valid = false ∧ t.phase.valid = false ∧ t.aux.valid = false ∧
      t.freq.lastoutValid = false ∧ t.phase.lastoutValid = false ∧ t.cq = [] ∧ t.out = []

/-- R37, R23: the state after reset, but for what the rules leave unspecified and for the CFG record, which the model chooses (log 3). -/
def Obligations.ResetState : Prop :=
  let t := State.reset
  t.lockState = .unlocked ∧ t.tgt = .frequency ∧ t.cnt = 0 ∧ t.sp = NUM.zero ∧ t.manual = t.cfg.manual0 ∧
    t.actEn = false ∧ t.lpReq = false ∧ t.lpEff = false ∧ t.lpPrimed = false ∧ t.pv = NUM.zero ∧
    t.phacc = NUM.zero ∧ t.ctrl = NUM.zero ∧ t.ctrlValid = false ∧ t.act = NUM.zero ∧ t.actValid = false ∧
    t.seq = 0 ∧ t.freq.valid = false ∧ t.phase.valid = false ∧ t.aux.valid = false ∧
    t.freq.lastoutValid = false ∧ t.phase.lastoutValid = false ∧ t.cq = []

/-- R272: the first TICK with a new sample after RESET, with any configuration. -/
def Obligations.FirstTickAfterReset : Prop :=
  ∀ (z : Sizes) (c : Cfg) (ops : List Op) (ch1 ch2 avg : NUM),
    exec (.tick true ch1 ch2 avg) (State.resetWith z c ops) =
      .next { State.resetWith z c ops with
        pv := avg, ctrl := c.manual0, ctrlValid := true, act := c.manual0, actValid := true, seq := 1,
        out := [.actDispatch c.manual0, .sample ch1 ch2 avg c.manual0 0] }

/-- R62: ENQUEUE appends any message at the tail, unchecked, and changes nothing else; on a full queue it has no step: the operations behind it that are no
ENQUEUE go first, and with none the engine holds its state (the model's choice of what the waiting host does: log 10). -/
def Obligations.EnqueueAppends : Prop :=
  ∀ (s : State) (m : Message) (rest : List Op),
    sizesValid s.sizes = true → cfgValid s.cfg = true → s.inbox = .enqueue m :: rest →
    (s.cq.length < s.sizes.cqDepth →
      step s = .next { s with cq := s.cq ++ [m], inbox := rest, out := [] }) ∧
    (s.sizes.cqDepth ≤ s.cq.length → rest = [] → step s = .next { s with out := [] }) ∧
    (s.sizes.cqDepth ≤ s.cq.length → ∀ w rest', rest = .tick w :: rest' →
      step s = exec (decodeTick w) { s with inbox := .enqueue m :: rest', out := [] })

/-- R35, R62, R72 (a): as many ENQUEUEs as the queue holds leave their messages in it in the order presented. -/
def Obligations.QueueIsFifo : Prop :=
  ∀ (s : State) (ms : List Message) (rest : List Op),
    sizesValid s.sizes = true → cfgValid s.cfg = true → s.inbox = ms.map Op.enqueue ++ rest → ms ≠ [] →
    s.cq.length + ms.length ≤ s.sizes.cqDepth →
    Host.Core.run Sys2Proof.core ms.length s = .next { s with cq := s.cq ++ ms, inbox := rest, out := [] }

/-! ### The commands -/

/-- R224: the ten foreign commands answer 0 and change nothing. -/
def Obligations.ForeignCommandsDoNothing : Prop :=
  ∀ (s : State) (low : BitVec 24) (pay : List NUM),
    ∀ i ∈ [Instr.acqRate low pay, .acqChannels low pay, .acqConnect low pay, .acqDisconnect low pay,
      .acqDevices low pay, .actAmp low pay, .actPhase low pay, .actConnect low pay, .actDisconnect low pay,
      .actDevices low pay],
    exec i s = .next { s with out := s.out ++ [.rsp .ok] }

/-- R214, R220, R221: SP, ACT.FREQ and ACT.EN write their one register and nothing else. -/
def Obligations.RegisterCommandsWrite : Prop :=
  ∀ (s : State) (v : NUM) (b : Bool),
    exec (.sp v) s = .next { s with sp := v, out := s.out ++ [.rsp .ok] } ∧
    exec (.actFreq v) s = .next { s with manual := v, out := s.out ++ [.rsp .ok] } ∧
    exec (.actEn b) s = .next { s with actEn := b, out := s.out ++ [.rsp .ok] }

/-- R210: LPAPPLY writes the toggle, and is rejected when it would switch on a stage that has no coefficients. -/
def Obligations.LpApplyWrites : Prop :=
  ∀ (s : State) (b : Bool),
    (b = true ∧ s.aux.valid = false →
      exec (.lpApply b) s = .next { s with out := s.out ++ [.rsp .noFilter] }) ∧
    (¬(b = true ∧ s.aux.valid = false) →
      exec (.lpApply b) s = .next { s with lpReq := b, out := s.out ++ [.rsp .ok] })

/-- R211, R133, R104: the RESET command zeroes the accumulators and fills the histories of each selected valid slot, and changes nothing
else; an invalid slot is skipped. -/
def Obligations.ResetCommandWrites : Prop :=
  ∀ (s : State) (sel : ResetSel) (p : NUM),
    let cleared : CtrlSlot → CtrlSlot := fun F =>
      { F with
        i := NUM.zero, ii := NUM.zero, eprev := NUM.zero, dprev := NUM.zero, lastoutValid := false
        h1 := ⟨List.replicate s.sizes.tapsMax p, List.replicate s.sizes.tapsMax p⟩
        h2 := ⟨List.replicate s.sizes.tapsMax p, List.replicate s.sizes.tapsMax p⟩ }
    exec (.reset sel p) s = .next { s with
      freq := if (sel = .freq ∨ sel = .all) ∧ s.freq.valid = true then cleared s.freq else s.freq
      phase := if (sel = .phase ∨ sel = .all) ∧ s.phase.valid = true then cleared s.phase else s.phase
      aux := if (sel = .aux ∨ sel = .all) ∧ s.aux.valid = true then
          { s.aux with h1 := ⟨List.replicate s.sizes.tapsMax p, List.replicate s.sizes.tapsMax p⟩ }
        else s.aux
      out := s.out ++ [.rsp .ok] }

/-- R212: engage: no effect when engaged; the checks in their order; then the frequency filter reset and seeded with the manual value,
`S.CTRL` at it, accumulator and counter cleared, FrequencyLocked; nothing is dispatched. -/
def Obligations.EngageWrites : Prop :=
  ∀ s : State,
    let z := List.replicate s.sizes.tapsMax NUM.zero
    let double := s.freq.kind = .i2lp1 ∨ s.freq.kind = .i2lp2
    (s.lockState ≠ .unlocked → exec .lockB1 s = .next { s with out := s.out ++ [.rsp .ok] }) ∧
    (s.lockState = .unlocked → s.freq.valid = false →
      exec .lockB1 s = .next { s with out := s.out ++ [.rsp .noFilter] }) ∧
    (s.lockState = .unlocked → s.freq.valid = true → s.tgt = .phase → s.phase.valid = false →
      exec .lockB1 s = .next { s with out := s.out ++ [.rsp .noFilter] }) ∧
    (s.lockState = .unlocked → s.freq.valid = true → (s.tgt = .phase → s.phase.valid = true) → s.actEn = false →
      exec .lockB1 s = .next { s with out := s.out ++ [.rsp .actuatorDisabled] }) ∧
    (s.lockState = .unlocked → s.freq.valid = true → (s.tgt = .phase → s.phase.valid = true) → s.actEn = true →
      exec .lockB1 s = .next { s with
        freq := { s.freq with
          i := if double then NUM.zero else s.manual
          ii := if double then s.manual else NUM.zero
          eprev := NUM.zero, dprev := NUM.zero, lastoutValid := false, h1 := ⟨z, z⟩, h2 := ⟨z, z⟩ }
        ctrl := s.manual, ctrlValid := true, phacc := NUM.zero, cnt := 0, lockState := .freqLocked
        out := s.out ++ [.rsp .ok] })

/-- R213, R65, R247: disengage, in every lock state. -/
def Obligations.DisengageWrites : Prop :=
  ∀ s : State, exec .lockB0 s = .next { s with
    lockState := .unlocked, cnt := 0, ctrl := s.manual, ctrlValid := true, act := s.manual, actValid := true
    out := s.out ++ [.actDispatch s.manual, .evNotLocked, .rsp .ok] }

/-- R215: target Phase, rejected while engaged without a phase filter. -/
def Obligations.ModePhaseWrites : Prop :=
  ∀ s : State,
    (s.lockState ≠ .unlocked ∧ s.phase.valid = false →
      exec .modeB1 s = .next { s with out := s.out ++ [.rsp .noFilter] }) ∧
    (¬(s.lockState ≠ .unlocked ∧ s.phase.valid = false) →
      exec .modeB1 s = .next { s with tgt := .phase, out := s.out ++ [.rsp .ok] })

/-- R216, R184, R185: target Frequency; in Phase mode the frequency filter is reset and seeded with the control value, or with the manual
value when no control value was written, and the engine is FrequencyLocked. The frequency slot is valid there, as R25 (iv) says. -/
def Obligations.ModeFrequencyWrites : Prop :=
  ∀ s : State,
    let z := List.replicate s.sizes.tapsMax NUM.zero
    let double := s.freq.kind = .i2lp1 ∨ s.freq.kind = .i2lp2
    let v := if s.ctrlValid = true then s.ctrl else s.manual
    (s.lockState ≠ .phaseLocked →
      exec .modeB0 s = .next { s with tgt := .frequency, cnt := 0, out := s.out ++ [.rsp .ok] }) ∧
    (s.lockState = .phaseLocked → s.freq.valid = true →
      exec .modeB0 s = .next { s with
        tgt := .frequency, cnt := 0, lockState := .freqLocked
        freq := { s.freq with
          i := if double then NUM.zero else v
          ii := if double then v else NUM.zero
          eprev := NUM.zero, dprev := NUM.zero, lastoutValid := false, h1 := ⟨z, z⟩, h2 := ⟨z, z⟩ }
        out := s.out ++ [.rsp .ok] })

/-- R204, R135, R136: FILT.LOAD.PID to a slot that is invalid or of another kind builds a new PID; it is seeded with the last output of the
outgoing filter if that one had one. -/
def Obligations.LoadPidBuilds : Prop :=
  ∀ (s : State) (slot : CtrlSel) (sign : Sign) (p : PidParams),
    let F := ctrlSlot s slot
    let z := List.replicate s.sizes.tapsMax NUM.zero
    fle p.outLo p.outHi = true → fle p.intLo p.intHi = true → F.valid = false ∨ F.kind ≠ .pid →
    exec (.filtLoadPid slot sign p) s = .next (setCtrlSlot { s with out := s.out ++ [.rsp .ok] } slot
      { valid := true, kind := .pid, sign := sign, kp := p.kp, ki := p.ki, kd := p.kd, gain := p.gain, lead := p.lead
        kii := NUM.zero, outLo := p.outLo, outHi := p.outHi, intLo := p.intLo, intHi := p.intHi
        coef := ⟨1, 1, NUM.zero :: F.coef.ff.drop 1, NUM.zero :: F.coef.fb.drop 1⟩
        h1 := ⟨z, z⟩, h2 := ⟨z, z⟩
        i := if F.valid = true ∧ F.lastoutValid = true then F.lastout else NUM.zero
        ii := NUM.zero, eprev := NUM.zero, dprev := NUM.zero, lastout := F.lastout, lastoutValid := false })

/-- R205, R206, R207, R208, R135, R136: the LOAD forms of the four Loop kinds to a slot that is invalid or of another kind; the seed of a
replacement goes to `II` of a double-integrator kind, to `I` of the others (R131). -/
def Obligations.LoadLoopBuilds : Prop :=
  ∀ (s : State) (slot : CtrlSel) (sign : Sign) (p : LoopParams) (ff fb : List NUM),
    ∀ ik ∈ [(Instr.filtLoadI1LP1 slot sign p ff fb, CtrlKind.i1lp1), (.filtLoadI1LP2 slot sign p ff fb, .i1lp2),
      (.filtLoadI2LP1 slot sign p ff fb, .i2lp1), (.filtLoadI2LP2 slot sign p ff fb, .i2lp2)],
    let F := ctrlSlot s slot
    let z := List.replicate s.sizes.tapsMax NUM.zero
    let seed := if F.valid = true ∧ F.lastoutValid = true then F.lastout else NUM.zero
    let double := ik.2 = .i2lp1 ∨ ik.2 = .i2lp2
    1 ≤ ff.length → ff.length ≤ s.sizes.tapsMax → 1 ≤ fb.length → fb.length ≤ s.sizes.tapsMax →
    fle p.outLo p.outHi = true → fle p.intLo p.intHi = true → F.valid = false ∨ F.kind ≠ ik.2 →
    exec ik.1 s = .next (setCtrlSlot { s with out := s.out ++ [.rsp .ok] } slot
      { valid := true, kind := ik.2, sign := sign, kp := NUM.zero, ki := p.ki, kd := NUM.zero, gain := NUM.one
        lead := NUM.one, kii := p.kii, outLo := p.outLo, outHi := p.outHi, intLo := p.intLo, intHi := p.intHi
        coef := ⟨ff.length, fb.length, ff ++ F.coef.ff.drop ff.length, fb ++ F.coef.fb.drop fb.length⟩
        h1 := ⟨z, z⟩, h2 := ⟨z, z⟩
        i := if double then NUM.zero else seed
        ii := if double then seed else NUM.zero
        eprev := NUM.zero, dprev := NUM.zero, lastout := F.lastout, lastoutValid := false })

/-- R137: a LOAD form of the kind that the valid slot holds writes the sign and the parameters of that kind, and nothing else. -/
def Obligations.SameKindMutates : Prop :=
  ∀ (s : State) (slot : CtrlSel) (sign : Sign),
    let F := ctrlSlot s slot
    (∀ p : PidParams, F.valid = true → F.kind = .pid → fle p.outLo p.outHi = true → fle p.intLo p.intHi = true →
      exec (.filtLoadPid slot sign p) s = .next (setCtrlSlot { s with out := s.out ++ [.rsp .ok] } slot
        { F with
          sign := sign, kp := p.kp, ki := p.ki, kd := p.kd, gain := p.gain, lead := p.lead
          outLo := p.outLo, outHi := p.outHi, intLo := p.intLo, intHi := p.intHi })) ∧
    (∀ (p : LoopParams) (ff fb : List NUM),
      ∀ ik ∈ [(Instr.filtLoadI1LP1 slot sign p ff fb, CtrlKind.i1lp1), (.filtLoadI1LP2 slot sign p ff fb, .i1lp2),
        (.filtLoadI2LP1 slot sign p ff fb, .i2lp1), (.filtLoadI2LP2 slot sign p ff fb, .i2lp2)],
      F.valid = true → F.kind = ik.2 →
      1 ≤ ff.length → ff.length ≤ s.sizes.tapsMax → 1 ≤ fb.length → fb.length ≤ s.sizes.tapsMax →
      fle p.outLo p.outHi = true → fle p.intLo p.intHi = true →
      exec ik.1 s = .next (setCtrlSlot { s with out := s.out ++ [.rsp .ok] } slot
        { F with
          sign := sign, ki := p.ki, kii := p.kii
          outLo := p.outLo, outHi := p.outHi, intLo := p.intLo, intHi := p.intHi
          coef := ⟨ff.length, fb.length, ff ++ F.coef.ff.drop ff.length, fb ++ F.coef.fb.drop fb.length⟩ }))

/-- R203: a LOAD form whose lengths or bounds fail their checks is rejected with ParamError and changes nothing. -/
def Obligations.LoadRejected : Prop :=
  ∀ (s : State) (slot : CtrlSel) (sign : Sign) (q : PidParams) (p : LoopParams) (ff fb : List NUM),
    let badLengths := ¬(1 ≤ ff.length ∧ ff.length ≤ s.sizes.tapsMax ∧ 1 ≤ fb.length ∧ fb.length ≤ s.sizes.tapsMax)
    let rejected : Result := .next { s with out := s.out ++ [.rsp .paramError] }
    (fle q.outLo q.outHi = false ∨ fle q.intLo q.intHi = false → exec (.filtLoadPid slot sign q) s = rejected) ∧
    (badLengths ∨ fle p.outLo p.outHi = false ∨ fle p.intLo p.intHi = false →
      exec (.filtLoadI1LP1 slot sign p ff fb) s = rejected ∧ exec (.filtLoadI1LP2 slot sign p ff fb) s = rejected ∧
      exec (.filtLoadI2LP1 slot sign p ff fb) s = rejected ∧ exec (.filtLoadI2LP2 slot sign p ff fb) s = rejected) ∧
    (badLengths → exec (.filtLoadLP ff fb) s = rejected)

/-- R209, R138: FILT.LOAD.LP writes the four coefficient elements of `S.AUX`; on an invalid slot also zero histories and `VALID`. -/
def Obligations.LoadLpWrites : Prop :=
  ∀ (s : State) (ff fb : List NUM),
    let z := List.replicate s.sizes.tapsMax NUM.zero
    1 ≤ ff.length → ff.length ≤ s.sizes.tapsMax → 1 ≤ fb.length → fb.length ≤ s.sizes.tapsMax →
    exec (.filtLoadLP ff fb) s = .next { s with
      aux :=
        { valid := true
          coef := ⟨ff.length, fb.length, ff ++ s.aux.coef.ff.drop ff.length, fb ++ s.aux.coef.fb.drop fb.length⟩
          h1 := if s.aux.valid = true then s.aux.h1 else ⟨z, z⟩ }
      out := s.out ++ [.rsp .ok] }

/-- R230, R202, R159: a DESIGN form whose checks pass does what the LOAD form of its kind does with the synthesized vectors, `N + 1`
feed-forward and `N` feedback coefficients, and is accepted. The vectors are within the tolerances of U2 and R162 of the exact ones, or
the NUMs nearest to them: which tolerances is the model's choice (log 7). -/
def Obligations.DesignActsAsLoad : Prop :=
  ∀ (s : State) (slot : CtrlSel) (sign : Sign) (p : LoopParams) (d : DesignParams) (n : Nat),
    synValidate d = none → synOrder s.sizes.tapsMax d = some n → cutoffFits d n = true →
    let ff := (synVectors d n).1
    let fb := (synVectors d n).2
    ff.length = n + 1 ∧ fb.length = n ∧ (acceptable d n (ff, fb) = true ∨ (ff, fb) = nearestVectors d n) ∧
    (fle p.outLo p.outHi = true → fle p.intLo p.intHi = true →
      ∀ ik ∈ [(Instr.filtDesignI1LP1 slot sign p d, Instr.filtLoadI1LP1 slot sign p ff fb),
        (.filtDesignI1LP2 slot sign p d, .filtLoadI1LP2 slot sign p ff fb),
        (.filtDesignI2LP1 slot sign p d, .filtLoadI2LP1 slot sign p ff fb),
        (.filtDesignI2LP2 slot sign p d, .filtLoadI2LP2 slot sign p ff fb)],
      exec ik.1 s = exec ik.2 s ∧
        ∃ F, exec ik.1 s = .next (setCtrlSlot { s with out := s.out ++ [.rsp .ok] } slot F)) ∧
    exec (.filtDesignLP d) s = exec (.filtLoadLP ff fb) s ∧
      ∃ A, exec (.filtDesignLP d) s = .next { s with aux := A, out := s.out ++ [.rsp .ok] }

/-- R230, R246: the errors of the DESIGN forms, in their order; each leaves everything but the response as it was. -/
def Obligations.DesignErrors : Prop :=
  ∀ (s : State) (slot : CtrlSel) (sign : Sign) (p : LoopParams) (d : DesignParams),
    let rejected : Status → Result := fun e => .next { s with out := s.out ++ [.rsp e] }
    (∀ i ∈ [Instr.filtDesignI1LP1 slot sign p d, .filtDesignI1LP2 slot sign p d, .filtDesignI2LP1 slot sign p d,
        .filtDesignI2LP2 slot sign p d],
      (fle p.outLo p.outHi = false ∨ fle p.intLo p.intHi = false → exec i s = rejected .paramError)) ∧
    (∀ i ∈ [Instr.filtDesignI1LP1 slot sign p d, .filtDesignI1LP2 slot sign p d, .filtDesignI2LP1 slot sign p d,
        .filtDesignI2LP2 slot sign p d, .filtDesignLP d],
      i = .filtDesignLP d ∨ (fle p.outLo p.outHi = true ∧ fle p.intLo p.intHi = true) →
      (∀ e, synValidate d = some e → exec i s = rejected e) ∧
      (synValidate d = none → synOrder s.sizes.tapsMax d = none → exec i s = rejected .paramError) ∧
      (∀ n, synValidate d = none → synOrder s.sizes.tapsMax d = some n → cutoffFits d n = false →
        exec i s = rejected .designFreqError))

/-! ### The synthesizer -/

/-- R151: the validation, on the real values of the operands; the first check that fails decides the error. -/
def Obligations.SynthesizerValidates : Prop :=
  ∀ d : DesignParams,
    let check1 := (isFinite d.wp = true ∧ isFinite d.ws = true ∧ isFinite d.dp = true ∧ isFinite d.ds = true ∧
      isFinite d.g = true ∧ isFinite d.fs = true) ∧ 0 < numVal d.fs ∧ 0 < numVal d.wp
    let check2 := numVal d.wp < numVal d.ws
    let check3 := numVal d.ws < numVal d.fs / 2
    let check4 := 0 < numVal d.ds ∧ numVal d.ds < numVal d.dp ∧ numVal d.dp < 1
    (¬check1 → synValidate d = some .paramError) ∧
    (check1 → ¬check2 → synValidate d = some .designFreqError) ∧
    (check1 → check2 → ¬check3 → synValidate d = some .designFreqError) ∧
    (check1 → check2 → check3 → ¬check4 → synValidate d = some .designAttError) ∧
    (check1 → check2 → check3 → check4 → synValidate d = none)

/-- R152: the order is the ceiling of the quotient of the two logarithms, at least 1; a design whose order is above `TAPS_MAX − 1` is
ParamError. -/
def Obligations.SynthesizerOrder : Prop :=
  ∀ (taps : Nat) (d : DesignParams), synValidate d = none →
    let order := ⌈Real.logb 10 ((1 / (numVal d.ds : ℝ) ^ 2 - 1) / (1 / (numVal d.dp : ℝ) ^ 2 - 1)) /
      (2 * Real.logb 10 ((numVal d.ws : ℝ) / (numVal d.wp : ℝ)))⌉₊
    1 ≤ order ∧ (order ≤ taps - 1 → synOrder taps d = some order) ∧
      (taps - 1 < order → synOrder taps d = none ∧ synDesign taps d = .error .paramError)

/-- R153, R154: a design of order `N` whose cutoff `fc = Ωp / (1/δp² − 1)^(1/(2N))` is not below `fs/2` is DesignFreqError; with the
cutoff below it is accepted. -/
def Obligations.SynthesizerCutoff : Prop :=
  ∀ (taps : Nat) (d : DesignParams) (n : Nat), synValidate d = none → synOrder taps d = some n →
    let fc := (numVal d.wp : ℝ) / (1 / (numVal d.dp : ℝ) ^ 2 - 1) ^ (1 / (2 * (n : ℝ)))
    ((numVal d.fs : ℝ) / 2 ≤ fc → synDesign taps d = .error .designFreqError) ∧
      (fc < (numVal d.fs : ℝ) / 2 → synDesign taps d = .ok (synVectors d n))

/-! ### TICK -/

/-- R172, R63: without a new sample TICK ends after the drain phase, whatever its three NUM fields hold; with an empty queue it changes
nothing. -/
def Obligations.TickWithoutSample : Prop :=
  ∀ (s : State) (ch1 ch2 avg : NUM),
    exec (.tick false ch1 ch2 avg) s = drain s.cq s ∧ (s.cq = [] → exec (.tick false ch1 ch2 avg) s = .next s)

/-- R171, R68, R72: the drain phase: the message at the head is removed and executed, then the rest of the TICK follows on the state that
the command left. -/
def Obligations.TickDrainsInOrder : Prop :=
  ∀ (s t : State) (m : Message) (rest : List Message) (isNew : Bool) (ch1 ch2 avg : NUM),
    s.cq = m :: rest → execMessage m { s with cq := [] } = .next t →
    exec (.tick isNew ch1 ch2 avg) s = exec (.tick isNew ch1 ch2 avg) { t with cq := rest }

/-- R67, R72 (b): a TICK leaves no message in the queue and produces exactly one response for each one it found there. -/
def Obligations.TickResponses : Prop :=
  ∀ (s t : State) (isNew : Bool) (ch1 ch2 avg : NUM), exec (.tick isNew ch1 ch2 avg) s = .next t →
    t.cq = [] ∧ t.out.countP isResponse = s.out.countP isResponse + s.cq.length ∧ ∃ more, t.out = s.out ++ more

/-- R170: in every state that the invariants allow, TICK ends its drain phase and its sample step. -/
def Obligations.TickCompletes : Prop :=
  ∀ (s : State) (isNew : Bool) (ch1 ch2 avg : NUM), s.Inv → ∃ t, exec (.tick isNew ch1 ch2 avg) s = .next t

/-- R182: unlocked, the manual value goes straight through: the whole effect of a TICK whose shaping is off. -/
def Obligations.TickUnlocked : Prop :=
  ∀ (s : State) (ch1 ch2 avg : NUM), s.cq = [] → slotsReady s = true → s.lockState = .unlocked →
    s.lpReq = false → s.lpEff = false →
    exec (.tick true ch1 ch2 avg) s = .next { s with
      pv := avg, lpPrimed := false, ctrl := s.manual, ctrlValid := true, act := s.manual, actValid := true
      seq := s.seq + 1
      out := s.out ++ [.actDispatch s.manual, .sample ch1 ch2 avg s.manual s.seq] }

/-- R173, R174: shaping, by the toggle that `CFG.LP_ORDER` selects; the stage is padded with the measurement on the first filtered tick. -/
def Obligations.TickShapes : Prop :=
  ∀ (s : State) (ch1 ch2 avg : NUM), s.cq = [] → slotsReady s = true →
    ∃ t, exec (.tick true ch1 ch2 avg) s = .next t ∧
      let use := match s.cfg.lpOrder with
        | .before => s.lpReq
        | .after => s.lpEff
      let pad := List.replicate s.sizes.tapsMax avg
      let h := if s.lpPrimed = true then s.aux.h1 else ⟨pad, pad⟩
      let r := rfUpdate s.sizes.tapsMax s.aux.coef h avg
      t.lpEff = s.lpReq ∧
      (use = false → t.pv = avg ∧ t.lpPrimed = false ∧ t.aux = s.aux) ∧
      (use = true → t.pv = r.2 ∧ t.lpPrimed = true ∧ t.aux = { s.aux with h1 := r.1 })

/-- R176, R177: the counter moves only in pursuit of phase lock: up in margin, down otherwise, held at `L` and at 0. -/
def Obligations.TickCounts : Prop :=
  ∀ (s : State) (ch1 ch2 avg : NUM), s.cq = [] → slotsReady s = true → cfgValid s.cfg = true →
    ∃ t, exec (.tick true ch1 ch2 avg) s = .next t ∧
      let good := flt (fabs (fsub s.sp t.pv)) s.cfg.margin
      let pursuing := s.lockState ≠ .unlocked ∧ s.tgt = .phase
      (¬pursuing → t.cnt = s.cnt) ∧
      (pursuing → good = true →
        t.cnt.toNat = if s.cnt.toNat < s.cfg.counterLimit then s.cnt.toNat + 1 else s.cnt.toNat) ∧
      (pursuing → good = false → t.cnt.toNat = s.cnt.toNat - 1)

/-- R178, R179, R64, R183, R247: the transitions that a TICK makes, and all that it puts out, in order. -/
def Obligations.TickTransitions : Prop :=
  ∀ (s : State) (ch1 ch2 avg : NUM), s.cq = [] → slotsReady s = true →
    ∃ t, exec (.tick true ch1 ch2 avg) s = .next t ∧
      let acquired := s.lockState = .freqLocked ∧ s.tgt = .phase ∧ t.cnt.toNat = s.cfg.counterLimit
      let fellBack := s.lockState = .phaseLocked ∧ s.tgt = .phase ∧ t.cnt.toNat = 0
      (acquired → t.lockState = .phaseLocked) ∧ (fellBack → t.lockState = .freqLocked) ∧
      (¬acquired → ¬fellBack → t.lockState = s.lockState) ∧
      t.seq = s.seq + 1 ∧
      (acquired →
        t.out = s.out ++ [.evPhaseAcq, .actDispatch t.act, .sample ch1 ch2 t.pv t.ctrl s.seq]) ∧
      (¬acquired → t.out = s.out ++ [.actDispatch t.act, .sample ch1 ch2 t.pv t.ctrl s.seq])

/-- R180, R181, R184, R185: the control step of an engaged engine, in both modes and also on the tick of a transition, where the newly
active filter has been reset and seeded with the control value first. -/
def Obligations.TickControls : Prop :=
  ∀ (s : State) (ch1 ch2 avg : NUM), s.cq = [] → slotsReady s = true → s.lockState ≠ .unlocked →
    ∃ t, exec (.tick true ch1 ch2 avg) s = .next t ∧
      let active : CtrlSel := if t.lockState = .phaseLocked then .phase else .freq
      let other : CtrlSel := if t.lockState = .phaseLocked then .freq else .phase
      let v := if s.ctrlValid = true then s.ctrl else s.manual
      let F := if t.lockState = s.lockState then ctrlSlot s active
        else cfSetoff (cfReset s.sizes.tapsMax (ctrlSlot s active) NUM.zero) v
      let acc := if t.lockState = s.lockState then s.phacc else NUM.zero
      let shaped := if t.lockState = .phaseLocked then t.phacc else t.pv
      let r := cfUpdate s.sizes.tapsMax s.cfg.dt F s.sp shaped
      (t.lockState = .phaseLocked → t.phacc = fadd acc (fmul (fsub t.pv s.sp) s.cfg.dt)) ∧
      (t.lockState ≠ .phaseLocked → t.phacc = s.phacc) ∧
      ctrlSlot t active = r.1 ∧ ctrlSlot t other = ctrlSlot s other ∧
      t.ctrl = r.2 ∧ t.ctrlValid = true ∧ t.act = r.2 ∧ t.actValid = true

/-- R170, R231: what a TICK never writes: the commanded registers, the parameters of every slot, the configuration; and while unlocked no
control filter and no phase accumulator. -/
def Obligations.TickFrame : Prop :=
  ∀ (s t : State) (isNew : Bool) (ch1 ch2 avg : NUM), s.cq = [] → exec (.tick isNew ch1 ch2 avg) s = .next t →
    t.sizes = s.sizes ∧ t.cfg = s.cfg ∧ t.tgt = s.tgt ∧ t.sp = s.sp ∧ t.manual = s.manual ∧ t.actEn = s.actEn ∧
    t.lpReq = s.lpReq ∧ t.cq = [] ∧ t.inbox = s.inbox ∧
    sameParameters t.freq s.freq ∧ sameParameters t.phase s.phase ∧
    t.aux.valid = s.aux.valid ∧ t.aux.coef = s.aux.coef ∧
    (s.lockState = .unlocked → t.freq = s.freq ∧ t.phase = s.phase ∧ t.phacc = s.phacc ∧ t.cnt = s.cnt ∧
      t.lockState = .unlocked)

/-- R187: from FrequencyLocked with target Phase, an empty counter, an empty queue and shaping off, ticks in margin acquire phase lock in
exactly the `L`-th of them, notify in that one only, and then hold. -/
def Obligations.PhaseLockAcquired : Prop :=
  ∀ (s : State) (ticks : List (NUM × NUM × NUM)), s.Inv → s.lockState = .freqLocked → s.tgt = .phase → s.cnt = 0 →
    s.cq = [] → s.lpReq = false → s.lpEff = false →
    s.inbox = ticks.map (fun p => Op.tick (BitVec.ofBool true ++ p.1 ++ p.2.1 ++ p.2.2)) →
    (∀ p ∈ ticks, flt (fabs (fsub s.sp p.2.2)) s.cfg.margin = true) →
    ∀ k, 1 ≤ k → k ≤ ticks.length →
      ∃ t : State, Host.Core.run Sys2Proof.core k s = .next t ∧
        (k < s.cfg.counterLimit → t.lockState = .freqLocked ∧ t.cnt.toNat = k ∧ Output.evPhaseAcq ∉ t.out) ∧
        (k = s.cfg.counterLimit →
          t.lockState = .phaseLocked ∧ t.cnt.toNat = s.cfg.counterLimit ∧ Output.evPhaseAcq ∈ t.out) ∧
        (s.cfg.counterLimit < k →
          t.lockState = .phaseLocked ∧ t.cnt.toNat = s.cfg.counterLimit ∧ Output.evPhaseAcq ∉ t.out)

/-! ### Rules over all instructions -/

/-- R186: every way in which one command, or one TICK on an empty queue, changes the lock state. -/
def Obligations.LockStateTransitions : Prop :=
  ∀ (i : Instr) (s t : State), s.cq = [] → exec i s = .next t → t.lockState ≠ s.lockState →
    (i = .lockB1 ∧ s.lockState = .unlocked ∧ t.lockState = .freqLocked ∧ s.freq.valid = true ∧
      (s.tgt = .phase → s.phase.valid = true) ∧ s.actEn = true) ∨
    (i = .lockB0 ∧ t.lockState = .unlocked) ∨
    (i = .modeB0 ∧ s.lockState = .phaseLocked ∧ t.lockState = .freqLocked) ∨
    (isCommand i = false ∧ s.lockState = .freqLocked ∧ s.tgt = .phase ∧ t.cnt.toNat = s.cfg.counterLimit ∧
      t.lockState = .phaseLocked) ∨
    (isCommand i = false ∧ s.lockState = .phaseLocked ∧ s.tgt = .phase ∧ t.cnt = 0 ∧ t.lockState = .freqLocked)

/-- R8, R251, R271: no command and no TICK writes the configuration or the sizes, nor what is presented later. -/
def Obligations.ConfigurationImmutable : Prop :=
  ∀ (i : Instr) (s t : State), exec i s = .next t → t.cfg = s.cfg ∧ t.sizes = s.sizes ∧ t.inbox = s.inbox

/-- R200: a slot once valid stays valid: no command and no TICK clears a `VALID` bit. -/
def Obligations.ValidNeverCleared : Prop :=
  ∀ (i : Instr) (s t : State), exec i s = .next t →
    (s.freq.valid = true → t.freq.valid = true) ∧ (s.phase.valid = true → t.phase.valid = true) ∧
    (s.aux.valid = true → t.aux.valid = true)

/-- R200, R240, R248: every command produces exactly one response, and one that is not 0 is its only effect. -/
def Obligations.RejectionIsPrecise : Prop :=
  ∀ (i : Instr) (s t : State), isCommand i = true → exec i s = .next t →
    ∃ (before : List Output) (e : Status), t.out = s.out ++ before ++ [.rsp e] ∧
      (∀ o ∈ before, isResponse o = false ∧ isSample o = false) ∧
      (e ≠ .ok → t = { s with out := s.out ++ [.rsp e] })

/-- R172, R173, R183, R170: no command runs a sample step: it leaves the process variable, the sample index, the two shaping bits and the
queue as they are. -/
def Obligations.CommandsLeaveSampleState : Prop :=
  ∀ (i : Instr) (s t : State), isCommand i = true → exec i s = .next t →
    t.pv = s.pv ∧ t.seq = s.seq ∧ t.lpEff = s.lpEff ∧ t.lpPrimed = s.lpPrimed ∧ t.cq = s.cq

/-- R283, R75: a command that runs twice in immediate succession leaves the state as one execution leaves it, outputs apart. -/
def Obligations.DuplicateLeavesState : Prop :=
  ∀ (i : Instr) (s t : State), isCommand i = true → exec i s = .next t →
    ∃ u, exec i t = .next u ∧ { u with out := t.out } = t

/-! ### Invariants -/

/-- R25 (i) to (vii), R31, R32, R35: every operation keeps the invariants, whatever is presented. -/
def Obligations.StepKeepsInvariants : Prop := ∀ s t : State, s.Inv → step s = .next t → t.Inv

/-- R25, R37: the invariants hold after reset. -/
def Obligations.ResetHasInvariants : Prop := State.reset.Inv

/-- R240, R13: from a state with the invariants the engine never faults, and it goes on unless a configuration out of its constraints
(U9, log 12) is presented to it. -/
def Obligations.StepGoesOn : Prop :=
  ∀ s : State, s.Inv →
    Safe (step s) ∧
    ((∀ c, Op.reset c ∈ s.inbox → cfgValid c = true) → ∃ t, step s = .next t)

/-! ### Filters and arithmetic -/

/-- R12: `clamp`: its three cases; within the bounds for a number, the bound for an infinity, and a NaN passes. -/
def Obligations.ClampBounds : Prop :=
  ∀ x lo hi : NUM,
    (flt x lo = true → clamp x lo hi = lo) ∧
    (flt x lo = false → flt hi x = true → clamp x lo hi = hi) ∧
    (flt x lo = false → flt hi x = false → clamp x lo hi = x) ∧
    (isNaN x = true → clamp x lo hi = x) ∧
    (fle lo hi = true → isNaN x = false → fle lo (clamp x lo hi) = true ∧ fle (clamp x lo hi) hi = true) ∧
    (fle lo hi = true → x = 0x7FF0000000000000#64 → clamp x lo hi = hi) ∧
    (fle lo hi = true → x = 0xFFF0000000000000#64 → clamp x lo hi = lo)

/-- R7, R11, D2: a sum, a product and a quotient of finite NUMs is the exact value rounded once, to nearest, ties to even; and the signs of
zero results. -/
def Obligations.RoundedOnce : Prop :=
  ∀ a b : NUM, isFinite a = true → isFinite b = true →
    RoundsTo (numVal a + numVal b) (fadd a b) ∧
    RoundsTo (numVal a - numVal b) (fsub a b) ∧
    RoundsTo (numVal a * numVal b) (fmul a b) ∧
    (numVal b ≠ 0 → RoundsTo (numVal a / numVal b) (fdiv a b)) ∧
    (numVal a + numVal b = 0 →
      fadd a b = if signBit a = true ∧ signBit b = true then 0x8000000000000000#64 else NUM.zero) ∧
    (signBit (fmul a b) = (signBit a != signBit b)) ∧
    (numVal b ≠ 0 → signBit (fdiv a b) = (signBit a != signBit b))

/-- R11: comparison by value on finite NUMs, so `+0 = −0`; false, but for `≠`, whenever an operand is a NaN. -/
def Obligations.ComparesByValue : Prop :=
  ∀ a b : NUM,
    (isFinite a = true → isFinite b = true →
      (flt a b = true ↔ numVal a < numVal b) ∧ (fle a b = true ↔ numVal a ≤ numVal b) ∧
      (feq a b = true ↔ numVal a = numVal b) ∧ (fne a b = true ↔ numVal a ≠ numVal b)) ∧
    (isNaN a = true ∨ isNaN b = true →
      flt a b = false ∧ fle a b = false ∧ feq a b = false ∧ fne a b = true)

/-- R101: `RF.UPDATE`, index by index: the input enters at index 0 before the sums, the sums run over ascending `k` from `+0.0`, the
output enters after them; the depth stays `TAPS_MAX`. -/
def Obligations.FilterUpdateSums : Prop :=
  ∀ (taps : Nat) (c : Coefs) (h : History) (x : NUM), 1 ≤ taps → c.WellFormed taps true → h.WellFormed taps →
    let r := rfUpdate taps c h x
    let sum := fun (cs xs : List NUM) (n : Nat) =>
      (List.range n).foldl (fun acc k => fadd acc (fmul (cs.getD k NUM.zero) (xs.getD k NUM.zero))) NUM.zero
    r.1.x.length = taps ∧ r.1.y.length = taps ∧
    r.1.x.getD 0 NUM.zero = x ∧ r.1.y.getD 0 NUM.zero = r.2 ∧
    (∀ k, 1 ≤ k → k < taps →
      r.1.x.getD k NUM.zero = h.x.getD (k - 1) NUM.zero ∧ r.1.y.getD k NUM.zero = h.y.getD (k - 1) NUM.zero) ∧
    r.2 = fadd (sum c.ff r.1.x c.nff) (sum c.fb h.y c.nfb)

/-- R120, R121, R122: `PID.UPDATE`, operation by operation. -/
def Obligations.PidUpdateSteps : Prop :=
  ∀ (taps : Nat) (dt : NUM) (F : CtrlSlot) (sp pv : NUM), F.kind = .pid →
    let e := match F.sign with
      | .plus => fsub sp pv
      | .minus => fneg (fsub sp pv)
    let i := clamp (fadd F.i (fmul (fmul (fmul NUM.half F.ki) dt) (fadd e F.eprev))) F.intLo F.intHi
    let draw := fdiv (fmul F.kd (fsub e F.eprev)) dt
    let d := fadd (fmul F.lead draw) (fmul (fsub NUM.one F.lead) F.dprev)
    let out := clamp (fmul F.gain (fadd (fadd (fmul F.kp e) i) d)) F.outLo F.outHi
    cfUpdate taps dt F sp pv =
      ({ F with i := i, eprev := e, dprev := d, lastout := out, lastoutValid := true }, out)

/-- R123, R124, R125, R126, R127, R128: `LOOP.UPDATE` of the four Loop kinds, operation by operation; the second integrator adds nothing
when `F.KI` is a zero. -/
def Obligations.LoopUpdateSteps : Prop :=
  ∀ (taps : Nat) (dt : NUM) (F : CtrlSlot) (sp pv : NUM), F.kind ≠ .pid →
    let e := match F.sign with
      | .plus => fsub sp pv
      | .minus => fneg (fsub sp pv)
    let double := F.kind = .i2lp1 ∨ F.kind = .i2lp2
    let twoStages := F.kind = .i1lp2 ∨ F.kind = .i2lp2
    let i := clamp (fadd F.i (fmul (fmul (fmul NUM.half F.ki) dt) (fadd e F.eprev))) F.intLo F.intHi
    let inc := if feq F.ki NUM.zero = true then NUM.zero else fmul (fmul F.kii dt) (fdiv i F.ki)
    let ii := if double then clamp (fadd F.ii inc) F.intLo F.intHi else F.ii
    let r1 := rfUpdate taps F.coef F.h1 e
    let r2 := rfUpdate taps F.coef F.h2 r1.2
    let y := if twoStages then r2.2 else r1.2
    let out := clamp (fadd (if double then fadd i ii else i) y) F.outLo F.outHi
    cfUpdate taps dt F sp pv =
      ({ F with
        i := i, ii := ii, h1 := r1.1, h2 := if twoStages then r2.1 else F.h2
        eprev := e, lastout := out, lastoutValid := true }, out)

/-- R31: after every update each accumulator of the kind and the output lie within their bounds, or are NaN. -/
def Obligations.UpdateWithinBounds : Prop :=
  ∀ (taps : Nat) (dt : NUM) (F : CtrlSlot) (sp pv : NUM), fle F.outLo F.outHi = true → fle F.intLo F.intHi = true →
    let r := cfUpdate taps dt F sp pv
    let within : NUM → NUM → NUM → Prop := fun lo x hi => isNaN x = false → fle lo x = true ∧ fle x hi = true
    within F.intLo r.1.i F.intHi ∧ within F.outLo r.1.lastout F.outHi ∧ r.1.lastout = r.2 ∧
    (F.kind = .i2lp1 ∨ F.kind = .i2lp2 → within F.intLo r.1.ii F.intHi)

/-- R132: the soft start: a Loop filter that was reset with `+0.0` and then seeded with `v` inside its bounds answers `v` to an update with
setpoint equal to process variable. The finiteness premises exclude the products of a zero error with an infinity, which are
NaN (U4); equality is that of NUM, since a seed of `−0.0` comes out as `+0.0`. -/
def Obligations.SoftStart : Prop :=
  ∀ (taps : Nat) (dt : NUM) (F : CtrlSlot) (sp v : NUM), 1 ≤ taps → F.coef.WellFormed taps true → F.kind ≠ .pid →
    isFinite sp = true → isFinite F.ki = true →
    (∀ c ∈ F.coef.ff.take F.coef.nff, isFinite c = true) → (∀ c ∈ F.coef.fb.take F.coef.nfb, isFinite c = true) →
    isFinite (fmul (fmul NUM.half F.ki) dt) = true →
    fle F.intLo v = true → fle v F.intHi = true → fle F.outLo v = true → fle v F.outHi = true →
    (F.kind = .i2lp1 ∨ F.kind = .i2lp2 →
      fle F.intLo NUM.zero = true ∧ fle NUM.zero F.intHi = true ∧ isFinite (fmul F.kii dt) = true) →
    feq (cfUpdate taps dt (cfSetoff (cfReset taps F NUM.zero) v) sp sp).2 v = true

/-- R286, R12, R214: a NaN propagates: as setpoint, process variable, stored error or accumulator it makes the output NaN, and in the
accumulator it stays. -/
def Obligations.NaNPropagates : Prop :=
  ∀ (taps : Nat) (dt : NUM) (F : CtrlSlot) (sp pv : NUM),
    isNaN sp = true ∨ isNaN pv = true ∨ isNaN F.eprev = true ∨ isNaN F.i = true →
    isNaN (cfUpdate taps dt F sp pv).2 = true ∧ isNaN (cfUpdate taps dt F sp pv).1.i = true
end

