-- ==== Sys2Proof/Laws/RecursiveFilter.lean ====
section
/-!
SUPPORT. Laws of the Recursive Filter and of coefficient arrays (spec/40_recursive_filter.md R101, R104): shapes, and the entries after a shift.
-/

namespace Sys2Proof.Machine

/-- A reset stage, entry by entry (R104). -/
theorem rfReset_def (n p) : rfReset n p = ⟨List.replicate n p, List.replicate n p⟩ := rfl

/-- A shift keeps the depth (R101). -/
theorem shiftIn_length {taps v} {xs : List NUM} (h : xs.length = taps) : (shiftIn taps v xs).length = taps := by
    simp [shiftIn]; omega

/-- A shift moves every entry up by one (R101). -/
theorem shiftIn_getD {taps : Nat} {v} {xs : List NUM} (k) (h1 : 1 ≤ k) (h2 : k < taps) : (shiftIn taps v xs).getD k
    NUM.zero = xs.getD (k-1) NUM.zero := by
  obtain ⟨j, rfl⟩ : ∃ j, k = j + 1 := ⟨k - 1, by omega⟩
  simp [shiftIn, List.getD_eq_getElem?_getD, h2]

/-- The sum over paired entries is the sum over indices (R101). -/
theorem foldl_zip_take (f : NUM → NUM → NUM → NUM) (z : NUM) : ∀ (n : Nat) (cs xs : List NUM), n ≤ cs.length → n ≤
    xs.length →
   ((cs.zip xs).take n).foldl (fun acc p => f acc p.1 p.2) z = (List.range n).foldl (fun acc k => f acc (cs.getD k
       NUM.zero) (xs.getD k NUM.zero)) z := by
  intro n
  induction n with
  | zero => simp
  | succ n ih =>
    intro cs xs h1 h2
    have hl : n < (cs.zip xs).length := by simp; omega
    rw [List.take_succ_eq_append_getElem hl, List.foldl_append, ih cs xs (by omega) (by omega), List.range_succ,
        List.foldl_append]
    simp [List.getD_eq_getElem?_getD, List.getElem?_eq_getElem (show n < cs.length by omega),
        List.getElem?_eq_getElem (show n < xs.length by omega)]

/-- A filled history has its depth. -/
theorem filled_wf (taps p) : (History.filled taps p).WellFormed taps := ⟨by simp [History.filled], by simp
    [History.filled]⟩

/-- An update keeps the depth of both registers (R32, R101). -/
theorem rfUpdate_wf {taps c h x} (hh : History.WellFormed taps h) : (rfUpdate taps c h x).1.WellFormed taps :=
  ⟨by simp [rfUpdate, shiftIn_length hh.xDepth], by simp [rfUpdate, shiftIn_length hh.yDepth]⟩

/-- Writing a vector into an array of enough depth keeps the depth. -/
theorem overwrite_length {old new : List NUM} {taps : Nat} (h : old.length = taps) (h' : new.length ≤ taps) :
    (overwrite old new).length = taps := by
  simp [overwrite]; omega

/-- Writing the same vector twice is writing it once. -/
theorem overwrite_overwrite (old new : List NUM) : overwrite (overwrite old new) new = overwrite old new := by
  simp [overwrite]

/-- Loading the same coefficients twice is loading them once. -/
theorem loadCoefs_loadCoefs (c : Coefs) (ff fb) : loadCoefs (loadCoefs c ff fb) ff fb = loadCoefs c ff fb := by
  simp [loadCoefs, overwrite_overwrite]

/-- Coefficients that fit keep a slot well-formed (R134). -/
theorem loadCoefs_wf {taps b} {c : Coefs} {ff fb} (h : c.WellFormed taps b) (hv : vectorsFit taps ff fb = true)
    (b') : (loadCoefs c ff fb).WellFormed taps b' := by
  simp [vectorsFit, lengthFits] at hv
  exact ⟨overwrite_length h.ffDepth hv.1.2, overwrite_length h.fbDepth hv.2.2, fun _ => hv.1, fun _ => hv.2⟩

end Sys2Proof.Machine
end

