-- ==== Sys2Proof/Laws/ControlFilter.lean ====
section
/-!
SUPPORT. Laws of the Control Filters unit (spec/41_control_filters.md): what each operation on a slot keeps.
-/

namespace Sys2Proof.Machine

/-! ### What an update and a seed never write -/

/-- Reflexive. -/
theorem sameParameters_refl (F : CtrlSlot) : sameParameters F F := by simp [sameParameters]

/-- Transitive. -/
theorem sameParameters_trans {F G H : CtrlSlot} (h : sameParameters F G) (h' : sameParameters G H) : sameParameters
    F H := by
  unfold sameParameters at *; grind

/-- An update writes no parameter (R122, R124). -/
theorem cfUpdate_sameParameters (taps dt F sp pv) : sameParameters (cfUpdate taps dt F sp pv).1 F := by
  unfold cfUpdate
  split <;> simp [sameParameters, pidUpdate, loopUpdate, finishUpdate, intStep, loopIntegrate, int2Step,
      loopLowpass]

/-- A seed writes no parameter (R184). -/
theorem cfSeed_sameParameters (taps F v) : sameParameters (cfSeed taps F v) F := by
  unfold cfSeed cfSetoff cfReset
  dsimp only
  split <;> simp [sameParameters]

@[simp] theorem cfReset_valid (taps F p) : (cfReset taps F p).valid = F.valid := rfl

@[simp] theorem cfSetoff_valid (F v) : (cfSetoff F v).valid = F.valid := by unfold cfSetoff; split <;> rfl

@[simp] theorem cfSeed_valid (taps F v) : (cfSeed taps F v).valid = F.valid := by simp [cfSeed]

/-! ### Construction, replacement, mutation -/

/-- A constructed slot is valid (R135). -/
theorem cfConstruct_valid (taps F k sg p) : (cfConstruct taps F k sg p).valid = true := rfl

/-- A constructed slot has the kind of the command (R135). -/
theorem cfConstruct_kind (taps F k sg p) : (cfConstruct taps F k sg p).kind = k := rfl

/-- An initial offset keeps the kind (R131). -/
theorem cfSetoff_kind (F v) : (cfSetoff F v).kind = F.kind := by unfold cfSetoff; split <;> rfl

/-- A mutation keeps the kind (R137). -/
theorem cfMutate_kind (F sg p) : (cfMutate F sg p).kind = F.kind := by cases p <;> rfl

/-- A mutation keeps `VALID` (R137). -/
theorem cfMutate_valid (F sg p) : (cfMutate F sg p).valid = F.valid := by cases p <;> rfl

/-- A replaced slot is valid (R136). -/
theorem cfReplace_valid (taps F k sg p) : (cfReplace taps F k sg p).valid = true := by
  unfold cfReplace; dsimp only; split <;> simp [cfConstruct_valid]

/-- A replaced slot has the kind of the command (R136). -/
theorem cfReplace_kind (taps F k sg p) : (cfReplace taps F k sg p).kind = k := by
  unfold cfReplace; dsimp only; split <;> simp [cfConstruct_kind, cfSetoff_kind]

/-- After a `filt` the slot has the kind of the command (R202). -/
theorem cfApply_kind (taps F k sg p) : (cfApply taps F k sg p).kind = k := by
  unfold cfApply
  split
  · rfl
  · split
    · exact cfReplace_kind ..
    · rename_i h; rw [cfMutate_kind]; simpa using h

/-- After a `filt` a valid slot is valid (R202). -/
theorem cfApply_valid (taps : Nat) (F : CtrlSlot) (k : CtrlKind) (sg : Sign) (p : FilterParams) (h : F.valid =
    true) :
    (cfApply taps F k sg p).valid = true := by
  simp only [cfApply, h]
  by_cases hk : F.kind = k
  · simp [hk]; cases p <;> simp [cfMutate, h]
  · simp [hk, cfReplace, cfConstruct]
    split
    · simp only [cfSetoff]; split <;> rfl
    · rfl

/-- Mutating twice with the same parameters is mutating once. -/
theorem cfMutate_cfMutate (F sg p) : cfMutate (cfMutate F sg p) sg p = cfMutate F sg p := by
  cases p <;> simp [cfMutate, loadCoefs_loadCoefs]

/-- A mutation that repeats a construction changes nothing. -/
theorem cfMutate_cfConstruct (taps F k sg p) : cfMutate (cfConstruct taps F k sg p) sg p = cfConstruct taps F k sg
    p := by
  cases p <;> simp [cfMutate, cfConstruct, fillUnused, loadCoefs_loadCoefs]

/-- A mutation and an initial offset touch different elements. -/
theorem cfMutate_cfSetoff (F sg p v) : cfMutate (cfSetoff F v) sg p = cfSetoff (cfMutate F sg p) v := by
  cases h : twoIntegrators F.kind <;> cases p <;> simp [cfMutate, cfSetoff, h]

/-- Applying the same `filt` twice is applying it once (R75). -/
theorem cfApply_cfApply (taps F k sg) (p : FilterParams) :
    cfApply taps (cfApply taps F k sg p) k sg p = cfApply taps F k sg p := by
  have hv : (cfApply taps F k sg p).valid = true := by
    unfold cfApply
    split
    · rfl
    · split
      · exact cfReplace_valid ..
      · rename_i h _; rw [cfMutate_valid]; simpa using h
  have : cfApply taps (cfApply taps F k sg p) k sg p = cfMutate (cfApply taps F k sg p) sg p := by
    rw [cfApply]; simp [hv, cfApply_kind]
  rw [this]
  unfold cfApply
  split
  · exact cfMutate_cfConstruct ..
  · split
    · unfold cfReplace; dsimp only; split <;> simp [cfMutate_cfSetoff, cfMutate_cfConstruct]
    · exact cfMutate_cfMutate ..

/-- A `filt` to the auxiliary slot makes it valid (R138). -/
theorem auxApply_valid (taps A ff fb) : (auxApply taps A ff fb).valid = true := by
  unfold auxApply; split <;> simp_all

/-- The same for the auxiliary slot. -/
theorem auxApply_auxApply (taps A ff fb) : auxApply taps (auxApply taps A ff fb) ff fb = auxApply taps A ff fb := by
  unfold auxApply; cases A.valid <;> simp [loadCoefs_loadCoefs]

/-- The RESET command keeps `VALID` (R211). -/
theorem resetIf_valid (taps b F p) : (resetIf taps b F p).valid = F.valid := by unfold resetIf; split <;> rfl

/-- The RESET command keeps `S.AUX.VALID` (R211). -/
theorem resetAuxIf_valid (taps b F p) : (resetAuxIf taps b F p).valid = F.valid := by unfold resetAuxIf; split <;>
    rfl

/-! ### Shapes and bounds -/

/-- The checks of R203 have passed for these parameters. -/
def paramsFit (taps : Nat) : FilterParams → Bool
  | .pid p => checkPid p
  | .loop p ff fb => checkLoop p && vectorsFit taps ff fb

theorem cfMutate_wf {taps F sg p} (hF : CtrlSlot.WellFormed taps F) (hp : paramsFit taps p = true) : (cfMutate F sg
    p).WellFormed taps := by
  cases p with
  | pid p => simp [paramsFit, checkPid, boundsFit] at hp; exact ⟨hF.coef, hF.h1, hF.h2, fun _ => hp.1, fun _ =>
      hp.2⟩
  | loop p ff fb =>
    simp [paramsFit, checkLoop, boundsFit] at hp
    exact ⟨loadCoefs_wf hF.coef hp.2 _, hF.h1, hF.h2, fun _ => hp.1.1, fun _ => hp.1.2⟩

theorem cfConstruct_wf {taps F k sg p} (ht : 1 ≤ taps) (hF : CtrlSlot.WellFormed taps F) (hp : paramsFit taps p =
    true) : (cfConstruct taps F k sg p).WellFormed taps := by
  have hv : vectorsFit taps [NUM.zero] [NUM.zero] = true := by simp [vectorsFit, lengthFits, ht]
  cases p with
  | pid p => simp [paramsFit, checkPid, boundsFit] at hp; exact ⟨loadCoefs_wf hF.coef hv _, filled_wf .., filled_wf
      .., fun _ => hp.1, fun _ => hp.2⟩
  | loop p ff fb =>
    simp [paramsFit, checkLoop, boundsFit] at hp
    exact ⟨loadCoefs_wf hF.coef hp.2 _, filled_wf .., filled_wf .., fun _ => hp.1.1, fun _ => hp.1.2⟩

theorem cfSetoff_wf {taps F v} (hF : CtrlSlot.WellFormed taps F) : (cfSetoff F v).WellFormed taps := by
  unfold cfSetoff; split <;> exact ⟨hF.coef, hF.h1, hF.h2, hF.outBounds, hF.intBounds⟩

theorem cfReset_wf {taps F v} (hF : CtrlSlot.WellFormed taps F) : (cfReset taps F v).WellFormed taps :=
  ⟨hF.coef, filled_wf .., filled_wf .., hF.outBounds, hF.intBounds⟩

theorem cfSeed_wf {taps F v} (hF : CtrlSlot.WellFormed taps F) : (cfSeed taps F v).WellFormed taps := cfSetoff_wf
    (cfReset_wf hF)

theorem cfApply_wf {taps F k sg p} (ht : 1 ≤ taps) (hF : CtrlSlot.WellFormed taps F) (hp : paramsFit taps p = true)
    : (cfApply taps F k sg p).WellFormed taps := by
  unfold cfApply cfReplace; dsimp only
  split
  · exact cfConstruct_wf ht hF hp
  · split
    · split
      · exact cfSetoff_wf (cfConstruct_wf ht hF hp)
      · exact cfConstruct_wf ht hF hp
    · exact cfMutate_wf hF hp

theorem cfUpdate_wf {taps dt F sp pv} (hF : CtrlSlot.WellFormed taps F) : (cfUpdate taps dt F sp pv).1.WellFormed
    taps := by
  have hs := cfUpdate_sameParameters taps dt F sp pv
  obtain ⟨e1, -, -, -, -, -, -, -, -, e2, e3, e4, e5, e6⟩ := hs
  have hh : (cfUpdate taps dt F sp pv).1.h1.WellFormed taps ∧ (cfUpdate taps dt F sp pv).1.h2.WellFormed taps := by
    unfold cfUpdate
    split <;> simp [pidUpdate, loopUpdate, finishUpdate, intStep, loopIntegrate, int2Step, loopLowpass] <;>
      first
      | exact ⟨hF.h1, hF.h2⟩
      | exact ⟨rfUpdate_wf hF.h1, hF.h2⟩
      | exact ⟨rfUpdate_wf hF.h1, rfUpdate_wf hF.h2⟩
  refine ⟨?_, hh.1, hh.2, ?_, ?_⟩
  · rw [e6, e1]; exact hF.coef
  · rw [e1, e2, e3]; exact hF.outBounds
  · rw [e1, e4, e5]; exact hF.intBounds

theorem auxApply_wf {taps A ff fb} (hA : AuxSlot.WellFormed taps A) (hv : vectorsFit taps ff fb = true) : (auxApply
    taps A ff fb).WellFormed taps := by
  unfold auxApply; split
  · exact ⟨loadCoefs_wf hA.coef hv _, hA.h1⟩
  · exact ⟨loadCoefs_wf hA.coef hv _, filled_wf ..⟩

theorem resetIf_wf {taps b F p} (h : CtrlSlot.WellFormed taps F) : (resetIf taps b F p).WellFormed taps := by
  unfold resetIf; split; exact cfReset_wf h; exact h

theorem resetAuxIf_wf {taps b A p} (h : AuxSlot.WellFormed taps A) : (resetAuxIf taps b A p).WellFormed taps := by
  unfold resetAuxIf; split; exact ⟨h.coef, filled_wf ..⟩; exact h

end Sys2Proof.Machine
end

