-- ==== Sys2Proof/Laws/State.lean ====
section
/-!
SUPPORT. One lemma per field per update of the state, true by `rfl`, so that no proof unfolds a record update.
-/

namespace Sys2Proof.Machine

theorem accept_eq (s : State) : accept s = emit s (.rsp .ok) := rfl

theorem reject_eq (s : State) (e : Status) : reject s e = emit s (.rsp e) := rfl

theorem seedSlot_eq (s : State) (sel : CtrlSel) (v : NUM) :
    seedSlot s sel v = setCtrlSlot s sel (cfSeed s.sizes.tapsMax (ctrlSlot s sel) v) := rfl

@[simp] theorem ctrlSlot_freq (s : State) : ctrlSlot s .freq = s.freq := rfl

@[simp] theorem ctrlSlot_phase (s : State) : ctrlSlot s .phase = s.phase := rfl

/-! ### `emit` -/

@[simp] theorem emit_sizes (s : State) (o : Output) : (emit s o).sizes = s.sizes := rfl

@[simp] theorem emit_cfg (s : State) (o : Output) : (emit s o).cfg = s.cfg := rfl

@[simp] theorem emit_lockState (s : State) (o : Output) : (emit s o).lockState = s.lockState := rfl

@[simp] theorem emit_tgt (s : State) (o : Output) : (emit s o).tgt = s.tgt := rfl

@[simp] theorem emit_cnt (s : State) (o : Output) : (emit s o).cnt = s.cnt := rfl

@[simp] theorem emit_sp (s : State) (o : Output) : (emit s o).sp = s.sp := rfl

@[simp] theorem emit_manual (s : State) (o : Output) : (emit s o).manual = s.manual := rfl

@[simp] theorem emit_actEn (s : State) (o : Output) : (emit s o).actEn = s.actEn := rfl

@[simp] theorem emit_lpReq (s : State) (o : Output) : (emit s o).lpReq = s.lpReq := rfl

@[simp] theorem emit_lpEff (s : State) (o : Output) : (emit s o).lpEff = s.lpEff := rfl

@[simp] theorem emit_lpPrimed (s : State) (o : Output) : (emit s o).lpPrimed = s.lpPrimed := rfl

@[simp] theorem emit_pv (s : State) (o : Output) : (emit s o).pv = s.pv := rfl

@[simp] theorem emit_phacc (s : State) (o : Output) : (emit s o).phacc = s.phacc := rfl

@[simp] theorem emit_ctrl (s : State) (o : Output) : (emit s o).ctrl = s.ctrl := rfl

@[simp] theorem emit_ctrlValid (s : State) (o : Output) : (emit s o).ctrlValid = s.ctrlValid := rfl

@[simp] theorem emit_act (s : State) (o : Output) : (emit s o).act = s.act := rfl

@[simp] theorem emit_actValid (s : State) (o : Output) : (emit s o).actValid = s.actValid := rfl

@[simp] theorem emit_seq (s : State) (o : Output) : (emit s o).seq = s.seq := rfl

@[simp] theorem emit_freq (s : State) (o : Output) : (emit s o).freq = s.freq := rfl

@[simp] theorem emit_phase (s : State) (o : Output) : (emit s o).phase = s.phase := rfl

@[simp] theorem emit_aux (s : State) (o : Output) : (emit s o).aux = s.aux := rfl

@[simp] theorem emit_cq (s : State) (o : Output) : (emit s o).cq = s.cq := rfl

@[simp] theorem emit_inbox (s : State) (o : Output) : (emit s o).inbox = s.inbox := rfl

@[simp] theorem emit_out (s : State) (o : Output) : (emit s o).out = s.out ++ [o] := rfl

/-! ### `setAux` -/

@[simp] theorem setAux_sizes (s : State) (A : AuxSlot) : (setAux s A).sizes = s.sizes := rfl

@[simp] theorem setAux_cfg (s : State) (A : AuxSlot) : (setAux s A).cfg = s.cfg := rfl

@[simp] theorem setAux_lockState (s : State) (A : AuxSlot) : (setAux s A).lockState = s.lockState := rfl

@[simp] theorem setAux_tgt (s : State) (A : AuxSlot) : (setAux s A).tgt = s.tgt := rfl

@[simp] theorem setAux_cnt (s : State) (A : AuxSlot) : (setAux s A).cnt = s.cnt := rfl

@[simp] theorem setAux_sp (s : State) (A : AuxSlot) : (setAux s A).sp = s.sp := rfl

@[simp] theorem setAux_manual (s : State) (A : AuxSlot) : (setAux s A).manual = s.manual := rfl

@[simp] theorem setAux_actEn (s : State) (A : AuxSlot) : (setAux s A).actEn = s.actEn := rfl

@[simp] theorem setAux_lpReq (s : State) (A : AuxSlot) : (setAux s A).lpReq = s.lpReq := rfl

@[simp] theorem setAux_lpEff (s : State) (A : AuxSlot) : (setAux s A).lpEff = s.lpEff := rfl

@[simp] theorem setAux_lpPrimed (s : State) (A : AuxSlot) : (setAux s A).lpPrimed = s.lpPrimed := rfl

@[simp] theorem setAux_pv (s : State) (A : AuxSlot) : (setAux s A).pv = s.pv := rfl

@[simp] theorem setAux_phacc (s : State) (A : AuxSlot) : (setAux s A).phacc = s.phacc := rfl

@[simp] theorem setAux_ctrl (s : State) (A : AuxSlot) : (setAux s A).ctrl = s.ctrl := rfl

@[simp] theorem setAux_ctrlValid (s : State) (A : AuxSlot) : (setAux s A).ctrlValid = s.ctrlValid := rfl

@[simp] theorem setAux_act (s : State) (A : AuxSlot) : (setAux s A).act = s.act := rfl

@[simp] theorem setAux_actValid (s : State) (A : AuxSlot) : (setAux s A).actValid = s.actValid := rfl

@[simp] theorem setAux_seq (s : State) (A : AuxSlot) : (setAux s A).seq = s.seq := rfl

@[simp] theorem setAux_freq (s : State) (A : AuxSlot) : (setAux s A).freq = s.freq := rfl

@[simp] theorem setAux_phase (s : State) (A : AuxSlot) : (setAux s A).phase = s.phase := rfl

@[simp] theorem setAux_aux (s : State) (A : AuxSlot) : (setAux s A).aux = A := rfl

@[simp] theorem setAux_cq (s : State) (A : AuxSlot) : (setAux s A).cq = s.cq := rfl

@[simp] theorem setAux_inbox (s : State) (A : AuxSlot) : (setAux s A).inbox = s.inbox := rfl

@[simp] theorem setAux_out (s : State) (A : AuxSlot) : (setAux s A).out = s.out := rfl

/-! ### `setCtrl` -/

@[simp] theorem setCtrl_sizes (s : State) (v : NUM) : (setCtrl s v).sizes = s.sizes := rfl

@[simp] theorem setCtrl_cfg (s : State) (v : NUM) : (setCtrl s v).cfg = s.cfg := rfl

@[simp] theorem setCtrl_lockState (s : State) (v : NUM) : (setCtrl s v).lockState = s.lockState := rfl

@[simp] theorem setCtrl_tgt (s : State) (v : NUM) : (setCtrl s v).tgt = s.tgt := rfl

@[simp] theorem setCtrl_cnt (s : State) (v : NUM) : (setCtrl s v).cnt = s.cnt := rfl

@[simp] theorem setCtrl_sp (s : State) (v : NUM) : (setCtrl s v).sp = s.sp := rfl

@[simp] theorem setCtrl_manual (s : State) (v : NUM) : (setCtrl s v).manual = s.manual := rfl

@[simp] theorem setCtrl_actEn (s : State) (v : NUM) : (setCtrl s v).actEn = s.actEn := rfl

@[simp] theorem setCtrl_lpReq (s : State) (v : NUM) : (setCtrl s v).lpReq = s.lpReq := rfl

@[simp] theorem setCtrl_lpEff (s : State) (v : NUM) : (setCtrl s v).lpEff = s.lpEff := rfl

@[simp] theorem setCtrl_lpPrimed (s : State) (v : NUM) : (setCtrl s v).lpPrimed = s.lpPrimed := rfl

@[simp] theorem setCtrl_pv (s : State) (v : NUM) : (setCtrl s v).pv = s.pv := rfl

@[simp] theorem setCtrl_phacc (s : State) (v : NUM) : (setCtrl s v).phacc = s.phacc := rfl

@[simp] theorem setCtrl_ctrl (s : State) (v : NUM) : (setCtrl s v).ctrl = v := rfl

@[simp] theorem setCtrl_ctrlValid (s : State) (v : NUM) : (setCtrl s v).ctrlValid = true := rfl

@[simp] theorem setCtrl_act (s : State) (v : NUM) : (setCtrl s v).act = s.act := rfl

@[simp] theorem setCtrl_actValid (s : State) (v : NUM) : (setCtrl s v).actValid = s.actValid := rfl

@[simp] theorem setCtrl_seq (s : State) (v : NUM) : (setCtrl s v).seq = s.seq := rfl

@[simp] theorem setCtrl_freq (s : State) (v : NUM) : (setCtrl s v).freq = s.freq := rfl

@[simp] theorem setCtrl_phase (s : State) (v : NUM) : (setCtrl s v).phase = s.phase := rfl

@[simp] theorem setCtrl_aux (s : State) (v : NUM) : (setCtrl s v).aux = s.aux := rfl

@[simp] theorem setCtrl_cq (s : State) (v : NUM) : (setCtrl s v).cq = s.cq := rfl

@[simp] theorem setCtrl_inbox (s : State) (v : NUM) : (setCtrl s v).inbox = s.inbox := rfl

@[simp] theorem setCtrl_out (s : State) (v : NUM) : (setCtrl s v).out = s.out := rfl

/-! ### `dispatchAct` -/

@[simp] theorem dispatchAct_sizes (s : State) (v : NUM) : (dispatchAct s v).sizes = s.sizes := rfl

@[simp] theorem dispatchAct_cfg (s : State) (v : NUM) : (dispatchAct s v).cfg = s.cfg := rfl

@[simp] theorem dispatchAct_lockState (s : State) (v : NUM) : (dispatchAct s v).lockState = s.lockState := rfl

@[simp] theorem dispatchAct_tgt (s : State) (v : NUM) : (dispatchAct s v).tgt = s.tgt := rfl

@[simp] theorem dispatchAct_cnt (s : State) (v : NUM) : (dispatchAct s v).cnt = s.cnt := rfl

@[simp] theorem dispatchAct_sp (s : State) (v : NUM) : (dispatchAct s v).sp = s.sp := rfl

@[simp] theorem dispatchAct_manual (s : State) (v : NUM) : (dispatchAct s v).manual = s.manual := rfl

@[simp] theorem dispatchAct_actEn (s : State) (v : NUM) : (dispatchAct s v).actEn = s.actEn := rfl

@[simp] theorem dispatchAct_lpReq (s : State) (v : NUM) : (dispatchAct s v).lpReq = s.lpReq := rfl

@[simp] theorem dispatchAct_lpEff (s : State) (v : NUM) : (dispatchAct s v).lpEff = s.lpEff := rfl

@[simp] theorem dispatchAct_lpPrimed (s : State) (v : NUM) : (dispatchAct s v).lpPrimed = s.lpPrimed := rfl

@[simp] theorem dispatchAct_pv (s : State) (v : NUM) : (dispatchAct s v).pv = s.pv := rfl

@[simp] theorem dispatchAct_phacc (s : State) (v : NUM) : (dispatchAct s v).phacc = s.phacc := rfl

@[simp] theorem dispatchAct_ctrl (s : State) (v : NUM) : (dispatchAct s v).ctrl = s.ctrl := rfl

@[simp] theorem dispatchAct_ctrlValid (s : State) (v : NUM) : (dispatchAct s v).ctrlValid = s.ctrlValid := rfl

@[simp] theorem dispatchAct_act (s : State) (v : NUM) : (dispatchAct s v).act = v := rfl

@[simp] theorem dispatchAct_actValid (s : State) (v : NUM) : (dispatchAct s v).actValid = true := rfl

@[simp] theorem dispatchAct_seq (s : State) (v : NUM) : (dispatchAct s v).seq = s.seq := rfl

@[simp] theorem dispatchAct_freq (s : State) (v : NUM) : (dispatchAct s v).freq = s.freq := rfl

@[simp] theorem dispatchAct_phase (s : State) (v : NUM) : (dispatchAct s v).phase = s.phase := rfl

@[simp] theorem dispatchAct_aux (s : State) (v : NUM) : (dispatchAct s v).aux = s.aux := rfl

@[simp] theorem dispatchAct_cq (s : State) (v : NUM) : (dispatchAct s v).cq = s.cq := rfl

@[simp] theorem dispatchAct_inbox (s : State) (v : NUM) : (dispatchAct s v).inbox = s.inbox := rfl

@[simp] theorem dispatchAct_out (s : State) (v : NUM) : (dispatchAct s v).out = s.out ++ [.actDispatch v] := rfl

/-! ### `beginOp` -/

@[simp] theorem beginOp_sizes (s : State) (rest : List Op) : (beginOp s rest).sizes = s.sizes := rfl

@[simp] theorem beginOp_cfg (s : State) (rest : List Op) : (beginOp s rest).cfg = s.cfg := rfl

@[simp] theorem beginOp_lockState (s : State) (rest : List Op) : (beginOp s rest).lockState = s.lockState := rfl

@[simp] theorem beginOp_tgt (s : State) (rest : List Op) : (beginOp s rest).tgt = s.tgt := rfl

@[simp] theorem beginOp_cnt (s : State) (rest : List Op) : (beginOp s rest).cnt = s.cnt := rfl

@[simp] theorem beginOp_sp (s : State) (rest : List Op) : (beginOp s rest).sp = s.sp := rfl

@[simp] theorem beginOp_manual (s : State) (rest : List Op) : (beginOp s rest).manual = s.manual := rfl

@[simp] theorem beginOp_actEn (s : State) (rest : List Op) : (beginOp s rest).actEn = s.actEn := rfl

@[simp] theorem beginOp_lpReq (s : State) (rest : List Op) : (beginOp s rest).lpReq = s.lpReq := rfl

@[simp] theorem beginOp_lpEff (s : State) (rest : List Op) : (beginOp s rest).lpEff = s.lpEff := rfl

@[simp] theorem beginOp_lpPrimed (s : State) (rest : List Op) : (beginOp s rest).lpPrimed = s.lpPrimed := rfl

@[simp] theorem beginOp_pv (s : State) (rest : List Op) : (beginOp s rest).pv = s.pv := rfl

@[simp] theorem beginOp_phacc (s : State) (rest : List Op) : (beginOp s rest).phacc = s.phacc := rfl

@[simp] theorem beginOp_ctrl (s : State) (rest : List Op) : (beginOp s rest).ctrl = s.ctrl := rfl

@[simp] theorem beginOp_ctrlValid (s : State) (rest : List Op) : (beginOp s rest).ctrlValid = s.ctrlValid := rfl

@[simp] theorem beginOp_act (s : State) (rest : List Op) : (beginOp s rest).act = s.act := rfl

@[simp] theorem beginOp_actValid (s : State) (rest : List Op) : (beginOp s rest).actValid = s.actValid := rfl

@[simp] theorem beginOp_seq (s : State) (rest : List Op) : (beginOp s rest).seq = s.seq := rfl

@[simp] theorem beginOp_freq (s : State) (rest : List Op) : (beginOp s rest).freq = s.freq := rfl

@[simp] theorem beginOp_phase (s : State) (rest : List Op) : (beginOp s rest).phase = s.phase := rfl

@[simp] theorem beginOp_aux (s : State) (rest : List Op) : (beginOp s rest).aux = s.aux := rfl

@[simp] theorem beginOp_cq (s : State) (rest : List Op) : (beginOp s rest).cq = s.cq := rfl

@[simp] theorem beginOp_inbox (s : State) (rest : List Op) : (beginOp s rest).inbox = rest := rfl

@[simp] theorem beginOp_out (s : State) (rest : List Op) : (beginOp s rest).out = [] := rfl

/-! ### `setCtrlSlot` -/

@[simp] theorem setCtrlSlot_sizes (s : State) (sel : CtrlSel) (F : CtrlSlot) : (setCtrlSlot s sel F).sizes = s.sizes :=
    by cases sel <;> rfl

@[simp] theorem setCtrlSlot_cfg (s : State) (sel : CtrlSel) (F : CtrlSlot) : (setCtrlSlot s sel F).cfg = s.cfg :=
    by cases sel <;> rfl

@[simp] theorem setCtrlSlot_lockState (s : State) (sel : CtrlSel) (F : CtrlSlot) : (setCtrlSlot s sel F).lockState = s.lockState :=
    by cases sel <;> rfl

@[simp] theorem setCtrlSlot_tgt (s : State) (sel : CtrlSel) (F : CtrlSlot) : (setCtrlSlot s sel F).tgt = s.tgt :=
    by cases sel <;> rfl

@[simp] theorem setCtrlSlot_cnt (s : State) (sel : CtrlSel) (F : CtrlSlot) : (setCtrlSlot s sel F).cnt = s.cnt :=
    by cases sel <;> rfl

@[simp] theorem setCtrlSlot_sp (s : State) (sel : CtrlSel) (F : CtrlSlot) : (setCtrlSlot s sel F).sp = s.sp :=
    by cases sel <;> rfl

@[simp] theorem setCtrlSlot_manual (s : State) (sel : CtrlSel) (F : CtrlSlot) : (setCtrlSlot s sel F).manual = s.manual :=
    by cases sel <;> rfl

@[simp] theorem setCtrlSlot_actEn (s : State) (sel : CtrlSel) (F : CtrlSlot) : (setCtrlSlot s sel F).actEn = s.actEn :=
    by cases sel <;> rfl

@[simp] theorem setCtrlSlot_lpReq (s : State) (sel : CtrlSel) (F : CtrlSlot) : (setCtrlSlot s sel F).lpReq = s.lpReq :=
    by cases sel <;> rfl

@[simp] theorem setCtrlSlot_lpEff (s : State) (sel : CtrlSel) (F : CtrlSlot) : (setCtrlSlot s sel F).lpEff = s.lpEff :=
    by cases sel <;> rfl

@[simp] theorem setCtrlSlot_lpPrimed (s : State) (sel : CtrlSel) (F : CtrlSlot) : (setCtrlSlot s sel F).lpPrimed = s.lpPrimed :=
    by cases sel <;> rfl

@[simp] theorem setCtrlSlot_pv (s : State) (sel : CtrlSel) (F : CtrlSlot) : (setCtrlSlot s sel F).pv = s.pv :=
    by cases sel <;> rfl

@[simp] theorem setCtrlSlot_phacc (s : State) (sel : CtrlSel) (F : CtrlSlot) : (setCtrlSlot s sel F).phacc = s.phacc :=
    by cases sel <;> rfl

@[simp] theorem setCtrlSlot_ctrl (s : State) (sel : CtrlSel) (F : CtrlSlot) : (setCtrlSlot s sel F).ctrl = s.ctrl :=
    by cases sel <;> rfl

@[simp] theorem setCtrlSlot_ctrlValid (s : State) (sel : CtrlSel) (F : CtrlSlot) : (setCtrlSlot s sel F).ctrlValid = s.ctrlValid :=
    by cases sel <;> rfl

@[simp] theorem setCtrlSlot_act (s : State) (sel : CtrlSel) (F : CtrlSlot) : (setCtrlSlot s sel F).act = s.act :=
    by cases sel <;> rfl

@[simp] theorem setCtrlSlot_actValid (s : State) (sel : CtrlSel) (F : CtrlSlot) : (setCtrlSlot s sel F).actValid = s.actValid :=
    by cases sel <;> rfl

@[simp] theorem setCtrlSlot_seq (s : State) (sel : CtrlSel) (F : CtrlSlot) : (setCtrlSlot s sel F).seq = s.seq :=
    by cases sel <;> rfl

@[simp] theorem setCtrlSlot_freq (s : State) (sel : CtrlSel) (F : CtrlSlot) : (setCtrlSlot s sel F).freq = if sel = .freq then F else s.freq :=
    by cases sel <;> rfl

@[simp] theorem setCtrlSlot_phase (s : State) (sel : CtrlSel) (F : CtrlSlot) : (setCtrlSlot s sel F).phase = if sel = .phase then F else s.phase :=
    by cases sel <;> rfl

@[simp] theorem setCtrlSlot_aux (s : State) (sel : CtrlSel) (F : CtrlSlot) : (setCtrlSlot s sel F).aux = s.aux :=
    by cases sel <;> rfl

@[simp] theorem setCtrlSlot_cq (s : State) (sel : CtrlSel) (F : CtrlSlot) : (setCtrlSlot s sel F).cq = s.cq :=
    by cases sel <;> rfl

@[simp] theorem setCtrlSlot_inbox (s : State) (sel : CtrlSel) (F : CtrlSlot) : (setCtrlSlot s sel F).inbox = s.inbox :=
    by cases sel <;> rfl

@[simp] theorem setCtrlSlot_out (s : State) (sel : CtrlSel) (F : CtrlSlot) : (setCtrlSlot s sel F).out = s.out :=
    by cases sel <;> rfl

end Sys2Proof.Machine
end

