-- ==== Sys2Proof/Laws/LockController.lean ====
section
/-!
SUPPORT. Laws of the sample step (spec/43_lock_controller.md): first what each phase of it never writes, field by field, then what it does write.
-/

namespace Sys2Proof.Machine

/-! ### `shape`: what shaping never writes (R173) -/

@[simp] theorem shape_sizes (s : State) (avg : NUM) : (shape s avg).sizes = s.sizes := by unfold shape; split <;> rfl

@[simp] theorem shape_cfg (s : State) (avg : NUM) : (shape s avg).cfg = s.cfg := by unfold shape; split <;> rfl

@[simp] theorem shape_lockState (s : State) (avg : NUM) : (shape s avg).lockState = s.lockState := by
  unfold shape; split <;> rfl

@[simp] theorem shape_tgt (s : State) (avg : NUM) : (shape s avg).tgt = s.tgt := by unfold shape; split <;> rfl

@[simp] theorem shape_cnt (s : State) (avg : NUM) : (shape s avg).cnt = s.cnt := by unfold shape; split <;> rfl

@[simp] theorem shape_sp (s : State) (avg : NUM) : (shape s avg).sp = s.sp := by unfold shape; split <;> rfl

@[simp] theorem shape_manual (s : State) (avg : NUM) : (shape s avg).manual = s.manual := by
  unfold shape; split <;> rfl

@[simp] theorem shape_actEn (s : State) (avg : NUM) : (shape s avg).actEn = s.actEn := by unfold shape; split <;> rfl

@[simp] theorem shape_lpReq (s : State) (avg : NUM) : (shape s avg).lpReq = s.lpReq := by unfold shape; split <;> rfl

@[simp] theorem shape_phacc (s : State) (avg : NUM) : (shape s avg).phacc = s.phacc := by unfold shape; split <;> rfl

@[simp] theorem shape_ctrl (s : State) (avg : NUM) : (shape s avg).ctrl = s.ctrl := by unfold shape; split <;> rfl

@[simp] theorem shape_ctrlValid (s : State) (avg : NUM) : (shape s avg).ctrlValid = s.ctrlValid := by
  unfold shape; split <;> rfl

@[simp] theorem shape_act (s : State) (avg : NUM) : (shape s avg).act = s.act := by unfold shape; split <;> rfl

@[simp] theorem shape_actValid (s : State) (avg : NUM) : (shape s avg).actValid = s.actValid := by
  unfold shape; split <;> rfl

@[simp] theorem shape_seq (s : State) (avg : NUM) : (shape s avg).seq = s.seq := by unfold shape; split <;> rfl

@[simp] theorem shape_freq (s : State) (avg : NUM) : (shape s avg).freq = s.freq := by unfold shape; split <;> rfl

@[simp] theorem shape_phase (s : State) (avg : NUM) : (shape s avg).phase = s.phase := by unfold shape; split <;> rfl

@[simp] theorem shape_cq (s : State) (avg : NUM) : (shape s avg).cq = s.cq := by unfold shape; split <;> rfl

@[simp] theorem shape_inbox (s : State) (avg : NUM) : (shape s avg).inbox = s.inbox := by unfold shape; split <;> rfl

@[simp] theorem shape_out (s : State) (avg : NUM) : (shape s avg).out = s.out := by unfold shape; split <;> rfl

/-! ### `countStep`: the counter alone (R177) -/

@[simp] theorem countStep_sizes (s : State) : (countStep s).sizes = s.sizes := by
  unfold countStep; split <;> split <;> rfl

@[simp] theorem countStep_cfg (s : State) : (countStep s).cfg = s.cfg := by unfold countStep; split <;> split <;> rfl

@[simp] theorem countStep_lockState (s : State) : (countStep s).lockState = s.lockState := by
  unfold countStep; split <;> split <;> rfl

@[simp] theorem countStep_tgt (s : State) : (countStep s).tgt = s.tgt := by unfold countStep; split <;> split <;> rfl

@[simp] theorem countStep_sp (s : State) : (countStep s).sp = s.sp := by unfold countStep; split <;> split <;> rfl

@[simp] theorem countStep_manual (s : State) : (countStep s).manual = s.manual := by
  unfold countStep; split <;> split <;> rfl

@[simp] theorem countStep_actEn (s : State) : (countStep s).actEn = s.actEn := by
  unfold countStep; split <;> split <;> rfl

@[simp] theorem countStep_lpReq (s : State) : (countStep s).lpReq = s.lpReq := by
  unfold countStep; split <;> split <;> rfl

@[simp] theorem countStep_lpEff (s : State) : (countStep s).lpEff = s.lpEff := by
  unfold countStep; split <;> split <;> rfl

@[simp] theorem countStep_lpPrimed (s : State) : (countStep s).lpPrimed = s.lpPrimed := by
  unfold countStep; split <;> split <;> rfl

@[simp] theorem countStep_pv (s : State) : (countStep s).pv = s.pv := by unfold countStep; split <;> split <;> rfl

@[simp] theorem countStep_phacc (s : State) : (countStep s).phacc = s.phacc := by
  unfold countStep; split <;> split <;> rfl

@[simp] theorem countStep_ctrl (s : State) : (countStep s).ctrl = s.ctrl := by
  unfold countStep; split <;> split <;> rfl

@[simp] theorem countStep_ctrlValid (s : State) : (countStep s).ctrlValid = s.ctrlValid := by
  unfold countStep; split <;> split <;> rfl

@[simp] theorem countStep_act (s : State) : (countStep s).act = s.act := by unfold countStep; split <;> split <;> rfl

@[simp] theorem countStep_actValid (s : State) : (countStep s).actValid = s.actValid := by
  unfold countStep; split <;> split <;> rfl

@[simp] theorem countStep_seq (s : State) : (countStep s).seq = s.seq := by unfold countStep; split <;> split <;> rfl

@[simp] theorem countStep_freq (s : State) : (countStep s).freq = s.freq := by
  unfold countStep; split <;> split <;> rfl

@[simp] theorem countStep_phase (s : State) : (countStep s).phase = s.phase := by
  unfold countStep; split <;> split <;> rfl

@[simp] theorem countStep_aux (s : State) : (countStep s).aux = s.aux := by unfold countStep; split <;> split <;> rfl

@[simp] theorem countStep_cq (s : State) : (countStep s).cq = s.cq := by unfold countStep; split <;> split <;> rfl

@[simp] theorem countStep_inbox (s : State) : (countStep s).inbox = s.inbox := by
  unfold countStep; split <;> split <;> rfl

@[simp] theorem countStep_out (s : State) : (countStep s).out = s.out := by unfold countStep; split <;> split <;> rfl

/-! ### `lockTransition`: what a transition never writes (R178, R179) -/

@[simp] theorem lockTransition_sizes (s : State) : (lockTransition s).sizes = s.sizes := by
  unfold lockTransition; split <;> (try split) <;> simp [acquirePhase, fallBack, seedSlot_eq]

@[simp] theorem lockTransition_cfg (s : State) : (lockTransition s).cfg = s.cfg := by
  unfold lockTransition; split <;> (try split) <;> simp [acquirePhase, fallBack, seedSlot_eq]

@[simp] theorem lockTransition_tgt (s : State) : (lockTransition s).tgt = s.tgt := by
  unfold lockTransition; split <;> (try split) <;> simp [acquirePhase, fallBack, seedSlot_eq]

@[simp] theorem lockTransition_cnt (s : State) : (lockTransition s).cnt = s.cnt := by
  unfold lockTransition; split <;> (try split) <;> simp [acquirePhase, fallBack, seedSlot_eq]

@[simp] theorem lockTransition_sp (s : State) : (lockTransition s).sp = s.sp := by
  unfold lockTransition; split <;> (try split) <;> simp [acquirePhase, fallBack, seedSlot_eq]

@[simp] theorem lockTransition_manual (s : State) : (lockTransition s).manual = s.manual := by
  unfold lockTransition; split <;> (try split) <;> simp [acquirePhase, fallBack, seedSlot_eq]

@[simp] theorem lockTransition_actEn (s : State) : (lockTransition s).actEn = s.actEn := by
  unfold lockTransition; split <;> (try split) <;> simp [acquirePhase, fallBack, seedSlot_eq]

@[simp] theorem lockTransition_lpReq (s : State) : (lockTransition s).lpReq = s.lpReq := by
  unfold lockTransition; split <;> (try split) <;> simp [acquirePhase, fallBack, seedSlot_eq]

@[simp] theorem lockTransition_lpEff (s : State) : (lockTransition s).lpEff = s.lpEff := by
  unfold lockTransition; split <;> (try split) <;> simp [acquirePhase, fallBack, seedSlot_eq]

@[simp] theorem lockTransition_lpPrimed (s : State) : (lockTransition s).lpPrimed = s.lpPrimed := by
  unfold lockTransition; split <;> (try split) <;> simp [acquirePhase, fallBack, seedSlot_eq]

@[simp] theorem lockTransition_pv (s : State) : (lockTransition s).pv = s.pv := by
  unfold lockTransition; split <;> (try split) <;> simp [acquirePhase, fallBack, seedSlot_eq]

@[simp] theorem lockTransition_ctrl (s : State) : (lockTransition s).ctrl = s.ctrl := by
  unfold lockTransition; split <;> (try split) <;> simp [acquirePhase, fallBack, seedSlot_eq]

@[simp] theorem lockTransition_ctrlValid (s : State) : (lockTransition s).ctrlValid = s.ctrlValid := by
  unfold lockTransition; split <;> (try split) <;> simp [acquirePhase, fallBack, seedSlot_eq]

@[simp] theorem lockTransition_act (s : State) : (lockTransition s).act = s.act := by
  unfold lockTransition; split <;> (try split) <;> simp [acquirePhase, fallBack, seedSlot_eq]

@[simp] theorem lockTransition_actValid (s : State) : (lockTransition s).actValid = s.actValid := by
  unfold lockTransition; split <;> (try split) <;> simp [acquirePhase, fallBack, seedSlot_eq]

@[simp] theorem lockTransition_seq (s : State) : (lockTransition s).seq = s.seq := by
  unfold lockTransition; split <;> (try split) <;> simp [acquirePhase, fallBack, seedSlot_eq]

@[simp] theorem lockTransition_aux (s : State) : (lockTransition s).aux = s.aux := by
  unfold lockTransition; split <;> (try split) <;> simp [acquirePhase, fallBack, seedSlot_eq]

@[simp] theorem lockTransition_cq (s : State) : (lockTransition s).cq = s.cq := by
  unfold lockTransition; split <;> (try split) <;> simp [acquirePhase, fallBack, seedSlot_eq]

@[simp] theorem lockTransition_inbox (s : State) : (lockTransition s).inbox = s.inbox := by
  unfold lockTransition; split <;> (try split) <;> simp [acquirePhase, fallBack, seedSlot_eq]

/-! ### `hysteresis`: what step 2 never writes (R176 to R179) -/

@[simp] theorem hysteresis_sizes (s : State) : (hysteresis s).sizes = s.sizes := by
  unfold hysteresis; split <;> simp

@[simp] theorem hysteresis_cfg (s : State) : (hysteresis s).cfg = s.cfg := by
  unfold hysteresis; split <;> simp

@[simp] theorem hysteresis_tgt (s : State) : (hysteresis s).tgt = s.tgt := by
  unfold hysteresis; split <;> simp

@[simp] theorem hysteresis_sp (s : State) : (hysteresis s).sp = s.sp := by
  unfold hysteresis; split <;> simp

@[simp] theorem hysteresis_manual (s : State) : (hysteresis s).manual = s.manual := by
  unfold hysteresis; split <;> simp

@[simp] theorem hysteresis_actEn (s : State) : (hysteresis s).actEn = s.actEn := by
  unfold hysteresis; split <;> simp

@[simp] theorem hysteresis_lpReq (s : State) : (hysteresis s).lpReq = s.lpReq := by
  unfold hysteresis; split <;> simp

@[simp] theorem hysteresis_lpEff (s : State) : (hysteresis s).lpEff = s.lpEff := by
  unfold hysteresis; split <;> simp

@[simp] theorem hysteresis_lpPrimed (s : State) : (hysteresis s).lpPrimed = s.lpPrimed := by
  unfold hysteresis; split <;> simp

@[simp] theorem hysteresis_pv (s : State) : (hysteresis s).pv = s.pv := by
  unfold hysteresis; split <;> simp

@[simp] theorem hysteresis_ctrl (s : State) : (hysteresis s).ctrl = s.ctrl := by
  unfold hysteresis; split <;> simp

@[simp] theorem hysteresis_ctrlValid (s : State) : (hysteresis s).ctrlValid = s.ctrlValid := by
  unfold hysteresis; split <;> simp

@[simp] theorem hysteresis_act (s : State) : (hysteresis s).act = s.act := by
  unfold hysteresis; split <;> simp

@[simp] theorem hysteresis_actValid (s : State) : (hysteresis s).actValid = s.actValid := by
  unfold hysteresis; split <;> simp

@[simp] theorem hysteresis_seq (s : State) : (hysteresis s).seq = s.seq := by
  unfold hysteresis; split <;> simp

@[simp] theorem hysteresis_aux (s : State) : (hysteresis s).aux = s.aux := by
  unfold hysteresis; split <;> simp

@[simp] theorem hysteresis_cq (s : State) : (hysteresis s).cq = s.cq := by
  unfold hysteresis; split <;> simp

@[simp] theorem hysteresis_inbox (s : State) : (hysteresis s).inbox = s.inbox := by
  unfold hysteresis; split <;> simp

/-! ### `phaseIntegrate`: the accumulator alone (R180) -/

@[simp] theorem phaseIntegrate_sizes (s : State) : (phaseIntegrate s).sizes = s.sizes := by
  unfold phaseIntegrate; split <;> rfl

@[simp] theorem phaseIntegrate_cfg (s : State) : (phaseIntegrate s).cfg = s.cfg := by
  unfold phaseIntegrate; split <;> rfl

@[simp] theorem phaseIntegrate_lockState (s : State) : (phaseIntegrate s).lockState = s.lockState := by
  unfold phaseIntegrate; split <;> rfl

@[simp] theorem phaseIntegrate_tgt (s : State) : (phaseIntegrate s).tgt = s.tgt := by
  unfold phaseIntegrate; split <;> rfl

@[simp] theorem phaseIntegrate_cnt (s : State) : (phaseIntegrate s).cnt = s.cnt := by
  unfold phaseIntegrate; split <;> rfl

@[simp] theorem phaseIntegrate_sp (s : State) : (phaseIntegrate s).sp = s.sp := by
  unfold phaseIntegrate; split <;> rfl

@[simp] theorem phaseIntegrate_manual (s : State) : (phaseIntegrate s).manual = s.manual := by
  unfold phaseIntegrate; split <;> rfl

@[simp] theorem phaseIntegrate_actEn (s : State) : (phaseIntegrate s).actEn = s.actEn := by
  unfold phaseIntegrate; split <;> rfl

@[simp] theorem phaseIntegrate_lpReq (s : State) : (phaseIntegrate s).lpReq = s.lpReq := by
  unfold phaseIntegrate; split <;> rfl

@[simp] theorem phaseIntegrate_lpEff (s : State) : (phaseIntegrate s).lpEff = s.lpEff := by
  unfold phaseIntegrate; split <;> rfl

@[simp] theorem phaseIntegrate_lpPrimed (s : State) : (phaseIntegrate s).lpPrimed = s.lpPrimed := by
  unfold phaseIntegrate; split <;> rfl

@[simp] theorem phaseIntegrate_pv (s : State) : (phaseIntegrate s).pv = s.pv := by
  unfold phaseIntegrate; split <;> rfl

@[simp] theorem phaseIntegrate_ctrl (s : State) : (phaseIntegrate s).ctrl = s.ctrl := by
  unfold phaseIntegrate; split <;> rfl

@[simp] theorem phaseIntegrate_ctrlValid (s : State) : (phaseIntegrate s).ctrlValid = s.ctrlValid := by
  unfold phaseIntegrate; split <;> rfl

@[simp] theorem phaseIntegrate_act (s : State) : (phaseIntegrate s).act = s.act := by
  unfold phaseIntegrate; split <;> rfl

@[simp] theorem phaseIntegrate_actValid (s : State) : (phaseIntegrate s).actValid = s.actValid := by
  unfold phaseIntegrate; split <;> rfl

@[simp] theorem phaseIntegrate_seq (s : State) : (phaseIntegrate s).seq = s.seq := by
  unfold phaseIntegrate; split <;> rfl

@[simp] theorem phaseIntegrate_freq (s : State) : (phaseIntegrate s).freq = s.freq := by
  unfold phaseIntegrate; split <;> rfl

@[simp] theorem phaseIntegrate_phase (s : State) : (phaseIntegrate s).phase = s.phase := by
  unfold phaseIntegrate; split <;> rfl

@[simp] theorem phaseIntegrate_aux (s : State) : (phaseIntegrate s).aux = s.aux := by
  unfold phaseIntegrate; split <;> rfl

@[simp] theorem phaseIntegrate_cq (s : State) : (phaseIntegrate s).cq = s.cq := by
  unfold phaseIntegrate; split <;> rfl

@[simp] theorem phaseIntegrate_inbox (s : State) : (phaseIntegrate s).inbox = s.inbox := by
  unfold phaseIntegrate; split <;> rfl

@[simp] theorem phaseIntegrate_out (s : State) : (phaseIntegrate s).out = s.out := by
  unfold phaseIntegrate; split <;> rfl

/-! ### `controlStep`: what steps 4 and 5 never write (R181, R182) -/

@[simp] theorem controlStep_sizes (s : State) : (controlStep s).sizes = s.sizes := by
  unfold controlStep controlLocked controlUnlocked; split <;> simp

@[simp] theorem controlStep_cfg (s : State) : (controlStep s).cfg = s.cfg := by
  unfold controlStep controlLocked controlUnlocked; split <;> simp

@[simp] theorem controlStep_lockState (s : State) : (controlStep s).lockState = s.lockState := by
  unfold controlStep controlLocked controlUnlocked; split <;> simp

@[simp] theorem controlStep_tgt (s : State) : (controlStep s).tgt = s.tgt := by
  unfold controlStep controlLocked controlUnlocked; split <;> simp

@[simp] theorem controlStep_cnt (s : State) : (controlStep s).cnt = s.cnt := by
  unfold controlStep controlLocked controlUnlocked; split <;> simp

@[simp] theorem controlStep_sp (s : State) : (controlStep s).sp = s.sp := by
  unfold controlStep controlLocked controlUnlocked; split <;> simp

@[simp] theorem controlStep_manual (s : State) : (controlStep s).manual = s.manual := by
  unfold controlStep controlLocked controlUnlocked; split <;> simp

@[simp] theorem controlStep_actEn (s : State) : (controlStep s).actEn = s.actEn := by
  unfold controlStep controlLocked controlUnlocked; split <;> simp

@[simp] theorem controlStep_lpReq (s : State) : (controlStep s).lpReq = s.lpReq := by
  unfold controlStep controlLocked controlUnlocked; split <;> simp

@[simp] theorem controlStep_lpEff (s : State) : (controlStep s).lpEff = s.lpEff := by
  unfold controlStep controlLocked controlUnlocked; split <;> simp

@[simp] theorem controlStep_lpPrimed (s : State) : (controlStep s).lpPrimed = s.lpPrimed := by
  unfold controlStep controlLocked controlUnlocked; split <;> simp

@[simp] theorem controlStep_pv (s : State) : (controlStep s).pv = s.pv := by
  unfold controlStep controlLocked controlUnlocked; split <;> simp

@[simp] theorem controlStep_phacc (s : State) : (controlStep s).phacc = s.phacc := by
  unfold controlStep controlLocked controlUnlocked; split <;> simp

@[simp] theorem controlStep_seq (s : State) : (controlStep s).seq = s.seq := by
  unfold controlStep controlLocked controlUnlocked; split <;> simp

@[simp] theorem controlStep_aux (s : State) : (controlStep s).aux = s.aux := by
  unfold controlStep controlLocked controlUnlocked; split <;> simp

@[simp] theorem controlStep_cq (s : State) : (controlStep s).cq = s.cq := by
  unfold controlStep controlLocked controlUnlocked; split <;> simp

@[simp] theorem controlStep_inbox (s : State) : (controlStep s).inbox = s.inbox := by
  unfold controlStep controlLocked controlUnlocked; split <;> simp

/-! ### `emitSample`: the index and the output (R183) -/

@[simp] theorem emitSample_sizes (s : State) (ch1 ch2 : NUM) : (emitSample s ch1 ch2).sizes = s.sizes := rfl

@[simp] theorem emitSample_cfg (s : State) (ch1 ch2 : NUM) : (emitSample s ch1 ch2).cfg = s.cfg := rfl

@[simp] theorem emitSample_lockState (s : State) (ch1 ch2 : NUM) : (emitSample s ch1 ch2).lockState = s.lockState := rfl

@[simp] theorem emitSample_tgt (s : State) (ch1 ch2 : NUM) : (emitSample s ch1 ch2).tgt = s.tgt := rfl

@[simp] theorem emitSample_cnt (s : State) (ch1 ch2 : NUM) : (emitSample s ch1 ch2).cnt = s.cnt := rfl

@[simp] theorem emitSample_sp (s : State) (ch1 ch2 : NUM) : (emitSample s ch1 ch2).sp = s.sp := rfl

@[simp] theorem emitSample_manual (s : State) (ch1 ch2 : NUM) : (emitSample s ch1 ch2).manual = s.manual := rfl

@[simp] theorem emitSample_actEn (s : State) (ch1 ch2 : NUM) : (emitSample s ch1 ch2).actEn = s.actEn := rfl

@[simp] theorem emitSample_lpReq (s : State) (ch1 ch2 : NUM) : (emitSample s ch1 ch2).lpReq = s.lpReq := rfl

@[simp] theorem emitSample_lpEff (s : State) (ch1 ch2 : NUM) : (emitSample s ch1 ch2).lpEff = s.lpEff := rfl

@[simp] theorem emitSample_lpPrimed (s : State) (ch1 ch2 : NUM) : (emitSample s ch1 ch2).lpPrimed = s.lpPrimed := rfl

@[simp] theorem emitSample_pv (s : State) (ch1 ch2 : NUM) : (emitSample s ch1 ch2).pv = s.pv := rfl

@[simp] theorem emitSample_phacc (s : State) (ch1 ch2 : NUM) : (emitSample s ch1 ch2).phacc = s.phacc := rfl

@[simp] theorem emitSample_ctrl (s : State) (ch1 ch2 : NUM) : (emitSample s ch1 ch2).ctrl = s.ctrl := rfl

@[simp] theorem emitSample_ctrlValid (s : State) (ch1 ch2 : NUM) : (emitSample s ch1 ch2).ctrlValid = s.ctrlValid := rfl

@[simp] theorem emitSample_act (s : State) (ch1 ch2 : NUM) : (emitSample s ch1 ch2).act = s.act := rfl

@[simp] theorem emitSample_actValid (s : State) (ch1 ch2 : NUM) : (emitSample s ch1 ch2).actValid = s.actValid := rfl

@[simp] theorem emitSample_freq (s : State) (ch1 ch2 : NUM) : (emitSample s ch1 ch2).freq = s.freq := rfl

@[simp] theorem emitSample_phase (s : State) (ch1 ch2 : NUM) : (emitSample s ch1 ch2).phase = s.phase := rfl

@[simp] theorem emitSample_aux (s : State) (ch1 ch2 : NUM) : (emitSample s ch1 ch2).aux = s.aux := rfl

@[simp] theorem emitSample_cq (s : State) (ch1 ch2 : NUM) : (emitSample s ch1 ch2).cq = s.cq := rfl

@[simp] theorem emitSample_inbox (s : State) (ch1 ch2 : NUM) : (emitSample s ch1 ch2).inbox = s.inbox := rfl

/-! ### What each phase writes -/

/-- SHAPE commits the effective toggle (R173). -/
theorem shape_lpEff (s avg) : (shape s avg).lpEff = s.lpReq := by unfold shape; split <;> rfl

/-- SHAPE with the lowpass off (R173). -/
theorem shape_off {s : State} (avg) (h : lpInUse s = false) :
    shape s avg = { s with pv := avg, lpPrimed := false, lpEff := s.lpReq } := by
  simp [shape, h]

/-- SHAPE with the lowpass on (R173). -/
theorem shape_on {s : State} (avg) (h : lpInUse s = true) :
    let r := rfUpdate s.sizes.tapsMax s.aux.coef (primeAux s avg).h1 avg
    shape s avg = { s with aux := { s.aux with h1 := r.1 }, pv := r.2, lpPrimed := true, lpEff := s.lpReq } := by
  unfold primeAux
  cases hp : s.lpPrimed <;> simp [shape, h, primeAux, hp]

/-- SHAPE does not decide what is pursued (R176). -/
theorem pursuing_shape (s a) : pursuing (shape s a) = pursuing s := by simp [pursuing, isLocked]

/-- The counter after HYSTERESIS (R177). -/
@[simp] theorem hysteresis_cnt (s) : (hysteresis s).cnt = if pursuing s then (countStep s).cnt else s.cnt := by
  unfold hysteresis; split <;> simp

/-- The counter stays in `0 … L` (R25 (i), R177). -/
theorem countStep_bound (s : State) (h : s.cnt.toNat ≤ s.cfg.counterLimit) (hc : cfgValid s.cfg = true) :
    (countStep s).cnt.toNat ≤ s.cfg.counterLimit := by
  simp [cfgValid] at hc
  unfold countStep
  have := s.cnt.isLt
  split <;> split <;> simp [BitVec.toNat_sub] <;> omega

/-- The lock state after the transition (R178, R179). -/
theorem lockTransition_lockState (s : State) : (lockTransition s).lockState =
    if s.lockState = .freqLocked ∧ s.cnt.toNat = s.cfg.counterLimit then .phaseLocked
    else if s.lockState = .phaseLocked ∧ s.cnt.toNat = 0 then .freqLocked else s.lockState := by
  unfold lockTransition
  cases h : s.lockState <;> simp only [reduceCtorEq, false_and, if_false, true_and]
  · exact h
  · split <;> simp [acquirePhase, h]
  · split <;> simp [fallBack, h]

/-- The lock state after HYSTERESIS (R178, R179). -/
theorem hysteresis_lockState (s : State) : (hysteresis s).lockState =
   if pursuing s = true ∧ s.lockState = .freqLocked ∧ (hysteresis s).cnt.toNat = s.cfg.counterLimit then
       .phaseLocked
   else if pursuing s = true ∧ s.lockState = .phaseLocked ∧ (hysteresis s).cnt.toNat = 0 then .freqLocked else
       s.lockState := by
  rw [hysteresis_cnt]
  cases hp : pursuing s <;> simp [hysteresis, hp, lockTransition_lockState]

/-- What the transition puts out (R178). -/
theorem lockTransition_out (s : State) : (lockTransition s).out = if s.lockState = .freqLocked ∧ s.cnt.toNat =
    s.cfg.counterLimit then s.out ++ [.evPhaseAcq] else s.out := by
  unfold lockTransition
  cases h : s.lockState <;> simp only [reduceCtorEq, false_and, if_false, true_and]
  · split <;> simp [acquirePhase, seedSlot_eq]
  · split <;> simp [fallBack, seedSlot_eq]

/-- What HYSTERESIS puts out (R178). -/
theorem hysteresis_out (s : State) : (hysteresis s).out = if pursuing s = true ∧ s.lockState = .freqLocked ∧
    (hysteresis s).cnt.toNat = s.cfg.counterLimit then s.out ++ [.evPhaseAcq] else s.out := by
  rw [hysteresis_cnt]
  cases hp : pursuing s <;> simp [hysteresis, hp, lockTransition_out]

/-- The frequency slot after HYSTERESIS: seeded on a fall-back (R179). -/
theorem hysteresis_freq (s : State) : (hysteresis s).freq =
   if pursuing s = true ∧ s.lockState = .phaseLocked ∧ (hysteresis s).cnt.toNat = 0 then cfSeed s.sizes.tapsMax
       s.freq (ctrlVal s) else s.freq := by
  rw [hysteresis_cnt]
  cases hp : pursuing s
  · simp [hysteresis, hp]
  · simp only [hysteresis, hp, if_true, lockTransition, countStep_lockState]
    cases h : s.lockState <;> simp only [reduceCtorEq, false_and, and_false, true_and, if_false]
    · simp
    · split <;> simp [acquirePhase, seedSlot_eq]
    · split <;> simp [fallBack, seedSlot_eq, ctrlVal]

/-- The phase slot after HYSTERESIS: seeded on an acquisition (R178). -/
theorem hysteresis_phase (s : State) : (hysteresis s).phase =
   if pursuing s = true ∧ s.lockState = .freqLocked ∧ (hysteresis s).cnt.toNat = s.cfg.counterLimit then cfSeed
       s.sizes.tapsMax s.phase (ctrlVal s) else s.phase := by
  rw [hysteresis_cnt]
  cases hp : pursuing s
  · simp [hysteresis, hp]
  · simp only [hysteresis, hp, if_true, lockTransition, countStep_lockState]
    cases h : s.lockState <;> simp only [reduceCtorEq, false_and, and_false, true_and, if_false]
    · simp
    · split <;> simp_all [acquirePhase, seedSlot_eq, ctrlVal]
    · split <;> simp [fallBack, seedSlot_eq]

/-- The phase accumulator after HYSTERESIS: cleared on an acquisition (R178). -/
theorem hysteresis_phacc (s : State) : (hysteresis s).phacc =
   if pursuing s = true ∧ s.lockState = .freqLocked ∧ (hysteresis s).cnt.toNat = s.cfg.counterLimit then NUM.zero
       else s.phacc := by
  rw [hysteresis_cnt]
  cases hp : pursuing s
  · simp [hysteresis, hp]
  · simp only [hysteresis, hp, if_true, lockTransition, countStep_lockState]
    cases h : s.lockState <;> simp only [reduceCtorEq, false_and, and_false, true_and, if_false]
    · simp
    · split <;> simp_all [acquirePhase, seedSlot_eq]
    · split <;> simp [fallBack, seedSlot_eq]

/-- Which control step runs (R170). -/
theorem controlStep_locked {s : State} (h : s.lockState ≠ .unlocked) : controlStep s = controlLocked s := by
  simp [controlStep, isLocked, h]

/-- The control step dispatches once (R181, R182). -/
theorem controlStep_out (s : State) : (controlStep s).out = s.out ++ [.actDispatch (controlStep s).act] := by
  unfold controlStep controlLocked controlUnlocked; split <;> simp

/-- The control step writes no parameter. -/
theorem controlStep_freq_same (s : State) : sameParameters (controlStep s).freq s.freq ∧ sameParameters
    (controlStep s).phase s.phase := by
  unfold controlStep controlLocked controlUnlocked
  split
  · dsimp only
    cases h : activeSel s <;> simp [ctrlSlot, cfUpdate_sameParameters, sameParameters_refl]
  · simp [sameParameters_refl]

/-- HYSTERESIS writes no parameter. -/
theorem hysteresis_same (s : State) : sameParameters (hysteresis s).freq s.freq ∧ sameParameters (hysteresis
    s).phase s.phase := by
  rw [hysteresis_freq, hysteresis_phase]
  constructor <;> split <;> simp [sameParameters_refl, cfSeed_sameParameters]

/-- The control step clears no `VALID`. -/
theorem controlStep_valid (s : State) : (controlStep s).freq.valid = s.freq.valid ∧ (controlStep s).phase.valid =
    s.phase.valid :=
  ⟨(controlStep_freq_same s).1.1, (controlStep_freq_same s).2.1⟩

/-- What the sample step leaves as it was, and that it answers no command. -/
theorem sampleStep_frame (s : State) (c1 c2 a) : let t := sampleStep s c1 c2 a
   t.sizes = s.sizes ∧ t.cfg = s.cfg ∧ t.inbox = s.inbox ∧ t.cq = s.cq ∧ t.tgt = s.tgt ∧ t.lpReq = s.lpReq ∧
   t.freq.valid = s.freq.valid ∧ t.phase.valid = s.phase.valid ∧ t.aux.valid = s.aux.valid ∧
   ∃ more, t.out = s.out ++ more ∧ more.countP isResponse = 0 := by
  simp only [sampleStep]
  have h1 := controlStep_valid (phaseIntegrate (hysteresis (shape s a)))
  have h2 := hysteresis_same (shape s a)
  have hax : (shape s a).aux.valid = s.aux.valid ∧ (shape s a).aux.coef = s.aux.coef := by
      unfold shape primeAux; split <;> (try split) <;> simp
  have hO := hysteresis_out (shape s a)
  have ho : ∀ u : State, (emitSample u c1 c2).out = u.out ++ [.sample c1 c2 u.pv u.ctrl u.seq] := fun u => by simp
      [emitSample]
  simp at h1
  refine ⟨by simp, by simp, by simp, by simp, by simp, by simp, by simp [h1, h2.1.1], by simp [h1, h2.2.1], by simp
      [hax], ?_⟩
  rw [ho, controlStep_out, phaseIntegrate_out, hO]
  split
  · exact ⟨[.evPhaseAcq, .actDispatch _, .sample _ _ _ _ _], by
      rw [shape_out, List.append_assoc, List.append_assoc]; rfl, rfl⟩
  · exact ⟨[.actDispatch _, .sample _ _ _ _ _], by
      rw [shape_out, List.append_assoc]; rfl, rfl⟩

end Sys2Proof.Machine
end

