-- ==== Sys2Proof/Laws/Synthesizer.lean ====
section
/-!
SUPPORT. Laws of the Filter Synthesizer (spec/42_synthesizer.md): what the vectors of a design can be, their lengths, and the range of its order.
-/

namespace Sys2Proof.Machine

/-- The vectors of a design are acceptable, and so keep the response of R162, or they are the nearest NUMs to the exact ones. -/
theorem synVectors_cases (d n) : acceptable d n (synVectors d n) = true ∨ synVectors d n = nearestVectors d n := by
  unfold synVectors; split
  · exact .inl ‹_›
  · exact .inr rfl

/-- Acceptable vectors keep the response of R162. -/
theorem acceptable_keepsResponse {d n v} (h : acceptable d n v = true) : keepsResponse d n v = true := by
  simp only [acceptable, Bool.and_eq_true] at h; exact h.2

/-- A row of the triangle of binomial coefficients (R157). -/
theorem binomials_length (n) : (binomials n).length = n + 1 := by
  induction n with
  | zero => rfl
  | succ n ih => simp [binomials, ih]

/-- `N + 1` feed-forward and `N` feedback coefficients (R159). -/
theorem synVectors_length (d n) : (synVectors d n).1.length = n + 1 ∧ (synVectors d n).2.length = n := by
  unfold synVectors; split <;> simp [freeVectors, nearestVectors, exactFF, exactFB, binomials_length]

/-- The search answers a candidate it tried. -/
theorem orderFrom_range (d) : ∀ (fuel n m : Nat), orderFrom d fuel n = some m → n ≤ m ∧ m < n + fuel
  | 0, n, m, h => by cases h
  | fuel + 1, n, m, h => by
    simp only [orderFrom] at h
    split at h
    · cases h; omega
    · have := orderFrom_range d fuel (n+1) m h; omega

/-- The order of an accepted design lies in `1 … TAPS_MAX − 1` (R152). -/
theorem synOrder_range {taps d n} (h : synOrder taps d = some n) : 1 ≤ n ∧ n + 1 ≤ taps := by
  have := orderFrom_range d _ _ _ h; omega

/-- The vectors of an accepted design fit the slot (R134, R152). -/
theorem synDesign_fits {taps d v} (h : synDesign taps d = .ok v) : vectorsFit taps v.1 v.2 = true := by
  unfold synDesign at h
  split at h; · cases h
  split at h; · cases h
  rename_i n hn
  split at h <;> cases h
  have := synOrder_range hn
  have hl := synVectors_length d n
  simp [vectorsFit, lengthFits, hl]; omega

/-- A DESIGN form of a Loop kind that the synthesizer accepts (R230). -/
theorem filtDesignLoop_ok {k slot sg p d v} {s : State} (hc : checkLoop p = true) (hd : synDesign s.sizes.tapsMax d
    = .ok v) :
    filtDesignLoop k slot sg p d s = .next (filtApply s slot k sg (.loop p v.1 v.2)) := by simp [filtDesignLoop,
        hc, hd]

/-- One that it rejects (R230). -/
theorem filtDesignLoop_error {k slot sg p d e} {s : State} (hc : checkLoop p = true) (hd : synDesign
    s.sizes.tapsMax d = .error e) :
    filtDesignLoop k slot sg p d s = .next (reject s e) := by simp [filtDesignLoop, hc, hd]

/-- FILT.DESIGN.LP, accepted (R229). -/
theorem execFiltDesignLP_ok {d v} {s : State} (hd : synDesign s.sizes.tapsMax d = .ok v) :
    execFiltDesignLP d s = .next (auxLoad s v.1 v.2) := by simp [execFiltDesignLP, hd]

/-- FILT.DESIGN.LP, rejected (R229). -/
theorem execFiltDesignLP_error {d e} {s : State} (hd : synDesign s.sizes.tapsMax d = .error e) :
    execFiltDesignLP d s = .next (reject s e) := by simp [execFiltDesignLP, hd]

end Sys2Proof.Machine
end

