-- ==== Sys2Proof/Laws/Commands.lean ====
section
/-!
SUPPORT. Laws of command execution (spec/44_commands.md): one dispatch or the other, what every command leaves as it was, and that no command looks at the queue.
-/

namespace Sys2Proof.Machine

/-- The drain phase gives every command the meaning that `exec` gives it (log 17). -/
theorem execCommand_eq_exec (i : Instr) (s : State) (h : isCommand i = true) : execCommand i s = exec i s := by
  cases i <;> first | rfl | cases h

/-- What decodes is a command (R88). -/
theorem decode_isCommand {m i} (h : decodeMessage m = .ok i) : isCommand i = true := by
  unfold decodeMessage at h
  split at h; · cases h
  rename_i op _
  split at h
  · split at h
    · rename_i j hj; cases h
      cases op <;> simp only [assemble] at hj <;>
        first
        | (simp only [Option.some.injEq] at hj; subst hj; rfl)
        | (simp only [Option.map_eq_some_iff, Option.bind_eq_some_iff] at hj; obtain ⟨a, _, rfl⟩ := hj; rfl)
        | (simp only [Option.map_eq_some_iff, Option.bind_eq_some_iff] at hj; obtain ⟨a, _, b, _, rfl⟩ := hj; rfl)
    · cases h
  · cases h

/-- What every command leaves as it was, and that it only adds to the outputs (R200, R68). -/
structure CommandEffect (s t : State) : Prop where
  sizes : t.sizes = s.sizes
  cfg : t.cfg = s.cfg
  inbox : t.inbox = s.inbox
  cq : t.cq = s.cq
  out : ∃ more, t.out = s.out ++ more

/-- A command that accepts on a state with the same sizes, configuration, queue, operations and outputs. -/
theorem CommandEffect.of_accept {s u : State} (h1 : u.sizes = s.sizes) (h2 : u.cfg = s.cfg)
    (h3 : u.inbox = s.inbox) (h4 : u.cq = s.cq) (h5 : u.out = s.out) : CommandEffect s (accept u) :=
  ⟨h1, h2, h3, h4, [.rsp .ok], by simp [accept_eq, h5]⟩

/-- A rejected command (R240, R248). -/
theorem CommandEffect.of_reject (s : State) (e : Status) : CommandEffect s (reject s e) :=
  ⟨rfl, rfl, rfl, rfl, [.rsp e], rfl⟩

/-- A `filt` to a control slot, once its checks have passed. -/
theorem CommandEffect.of_filtApply (s : State) (slot : CtrlSel) (k : CtrlKind) (sg : Sign) (p : FilterParams) :
    CommandEffect s (filtApply s slot k sg p) := by
  apply CommandEffect.of_accept <;> simp

/-- A `filt` to the auxiliary slot, once its checks have passed. -/
theorem CommandEffect.of_auxLoad (s : State) (ff fb : List NUM) : CommandEffect s (auxLoad s ff fb) := by
  apply CommandEffect.of_accept <;> rfl

/-- A LOAD form of a Loop kind. -/
theorem filtLoadLoop_effect {k : CtrlKind} {slot : CtrlSel} {sg : Sign} {p : LoopParams} {ff fb : List NUM}
    {s t : State} (h : filtLoadLoop k slot sg p ff fb s = .next t) : CommandEffect s t := by
  unfold filtLoadLoop at h
  split at h <;> cases h
  · exact .of_filtApply ..
  · exact .of_reject ..

/-- A DESIGN form of a Loop kind. -/
theorem filtDesignLoop_effect {k : CtrlKind} {slot : CtrlSel} {sg : Sign} {p : LoopParams} {d : DesignParams}
    {s t : State} (h : filtDesignLoop k slot sg p d s = .next t) : CommandEffect s t := by
  unfold filtDesignLoop at h
  split at h
  · split at h <;> cases h
    · exact .of_reject ..
    · exact .of_filtApply ..
  · cases h
    exact .of_reject ..

/-- Every command. -/
theorem exec_command_effect {i : Instr} {s t : State} (hi : isCommand i = true) (h : exec i s = .next t) :
    CommandEffect s t := by
  cases i <;> simp only [exec] at h
  case tick => cases hi
  case filtLoadI1LP1 => exact filtLoadLoop_effect h
  case filtLoadI1LP2 => exact filtLoadLoop_effect h
  case filtLoadI2LP1 => exact filtLoadLoop_effect h
  case filtLoadI2LP2 => exact filtLoadLoop_effect h
  case filtDesignI1LP1 => exact filtDesignLoop_effect h
  case filtDesignI1LP2 => exact filtDesignLoop_effect h
  case filtDesignI2LP1 => exact filtDesignLoop_effect h
  case filtDesignI2LP2 => exact filtDesignLoop_effect h
  case filtLoadPid =>
    unfold execFiltLoadPid at h
    split at h <;> cases h
    · exact .of_filtApply ..
    · exact .of_reject ..
  case filtLoadLP =>
    unfold execFiltLoadLP at h
    split at h <;> cases h
    · exact .of_auxLoad ..
    · exact .of_reject ..
  case filtDesignLP =>
    unfold execFiltDesignLP at h
    split at h <;> cases h
    · exact .of_reject ..
    · exact .of_auxLoad ..
  case lpApply =>
    unfold execLpApply at h
    split at h <;> cases h
    · exact .of_reject ..
    · apply CommandEffect.of_accept <;> rfl
  case lockB0 =>
    cases h
    exact ⟨rfl, rfl, rfl, rfl, [.actDispatch s.manual, .evNotLocked, .rsp .ok], by simp [accept_eq, disengage]⟩
  case lockB1 =>
    unfold execLockB1 at h
    split at h
    · cases h
      apply CommandEffect.of_accept <;> rfl
    split at h
    · cases h
      exact .of_reject ..
    split at h
    · cases h
      exact .of_reject ..
    split at h
    · cases h
      exact .of_reject ..
    cases h
    apply CommandEffect.of_accept <;> rfl
  case modeB0 =>
    unfold execModeB0 at h
    dsimp only at h
    split at h
    · split at h <;> cases h
      apply CommandEffect.of_accept <;> rfl
    · cases h
      apply CommandEffect.of_accept <;> rfl
  case modeB1 =>
    unfold execModeB1 at h
    split at h <;> cases h
    · exact .of_reject ..
    · apply CommandEffect.of_accept <;> rfl
  all_goals
    cases h
    apply CommandEffect.of_accept <;> rfl

/-- Every message, decode errors included (R200, R201). -/
theorem execMessage_effect {m : Message} {s t : State} (h : execMessage m s = .next t) : CommandEffect s t := by
  unfold execMessage at h
  split at h
  · cases h
    exact .of_reject ..
  · rename_i i hd
    rw [execCommand_eq_exec i s (decode_isCommand hd)] at h
    exact exec_command_effect (decode_isCommand hd) h

/-! ### No command looks at the queue -/

/-- An outcome with another queue in its state. -/
def withQueue (q : List Message) : Result → Result
  | .next t => .next { t with cq := q }
  | .fault r => .fault r
  | .refused r => .refused r

theorem filtApply_withQueue (s : State) (q) (slot k sg p) : filtApply { s with cq := q } slot k sg p = { filtApply
    s slot k sg p with cq := q } := by
  cases slot <;> rfl

/-- A command does on another queue what it does on this one (R68, R171). -/
theorem exec_withQueue (i : Instr) (s : State) (q : List Message) (hi : isCommand i = true) :
    exec i { s with cq := q } = withQueue q (exec i s) := by
  cases i <;> simp only [exec]
  case tick => cases hi
  case filtLoadI1LP1 | filtLoadI1LP2 | filtLoadI2LP1 | filtLoadI2LP2 =>
    simp only [execFiltLoadI1LP1, execFiltLoadI1LP2, execFiltLoadI2LP1, execFiltLoadI2LP2, filtLoadLoop,
        filtApply_withQueue]; split <;> rfl
  case filtDesignI1LP1 | filtDesignI1LP2 | filtDesignI2LP1 | filtDesignI2LP2 =>
    simp only [execFiltDesignI1LP1, execFiltDesignI1LP2, execFiltDesignI2LP1, execFiltDesignI2LP2, filtDesignLoop,
        filtApply_withQueue]; split <;> (try split) <;> rfl
  case filtLoadPid => simp only [execFiltLoadPid, filtApply_withQueue]; split <;> rfl
  case filtLoadLP => simp only [execFiltLoadLP]; split <;> rfl
  case filtDesignLP => simp only [execFiltDesignLP]; split <;> rfl
  case lpApply b => cases hv : (b && !s.aux.valid) <;> simp [execLpApply, hv, withQueue, accept, reject, emit]
  case lockB1 =>
    unfold execLockB1 isLocked
    dsimp only
    by_cases h1 : (s.lockState != .unlocked) = true
    · simp only [if_pos h1]; rfl
    by_cases h2 : (!s.freq.valid) = true
    · simp only [if_neg h1, if_pos h2]; rfl
    by_cases h3 : (s.tgt == .phase && !s.phase.valid) = true
    · simp only [if_neg h1, if_neg h2, if_pos h3]; rfl
    by_cases h4 : (!s.actEn) = true
    · simp only [if_neg h1, if_neg h2, if_neg h3, if_pos h4]; rfl
    · simp only [if_neg h1, if_neg h2, if_neg h3, if_neg h4]; rfl
  case modeB0 =>
    cases h1 : (s.lockState == .phaseLocked) <;> cases h2 : s.freq.valid <;> simp only [execModeB0, isPhaseLocked,
        h1, h2] <;> rfl
  case modeB1 =>
    cases h1 : (s.lockState != .unlocked && !s.phase.valid) <;> simp only [execModeB1, isLocked, h1] <;> rfl
  all_goals rfl

/-- The same of a message. -/
theorem execMessage_withQueue (m : Message) (s : State) (q : List Message) :
    execMessage m { s with cq := q } = withQueue q (execMessage m s) := by
  unfold execMessage
  split
  · rfl
  · rename_i i hd
    rw [execCommand_eq_exec _ _ (decode_isCommand hd), execCommand_eq_exec _ _ (decode_isCommand hd),
        exec_withQueue _ _ _ (decode_isCommand hd)]

/-- The drain phase empties the queue and keeps sizes, configuration and what is presented (R171). -/
theorem drain_effect (ms : List Message) (s t : State) (h : drain ms s = .next t) :
    t.cq = [] ∧ t.sizes = s.sizes ∧ t.cfg = s.cfg ∧ t.inbox = s.inbox ∧ ∃ more, t.out = s.out ++ more := by
  induction ms generalizing s with
  | nil =>
    cases h
    exact ⟨rfl, rfl, rfl, rfl, [], by simp⟩
  | cons m rest ih =>
    simp only [drain] at h
    split at h
    · rename_i u hu
      obtain ⟨h1, h2, h3, h4, more, h5⟩ := ih u h
      have e := execMessage_effect hu
      obtain ⟨first, h6⟩ := e.out
      exact ⟨h1, h2.trans e.sizes, h3.trans e.cfg, h4.trans e.inbox, first ++ more, by simp [h5, h6]⟩
    all_goals cases h

/-- TICK with a new sample on an empty queue is its sample step (R170). -/
theorem tick_next {s : State} (c1 c2 a) (hq : s.cq = []) (hr : slotsReady s = true) :
    exec (.tick true c1 c2 a) s = .next (sampleStep s c1 c2 a) := by
  have : ({ s with cq := [] } : State) = s := by cases s; simp_all
  simp [exec, execTick, hq, drain, afterDrain, this, hr]

/-- All that a TICK can answer (R170, R172). -/
theorem exec_tick_cases {b c1 c2 a} {s t : State} (h : exec (.tick b c1 c2 a) s = .next t) :
   ∃ u, drain s.cq s = .next u ∧ ((b = false ∧ t = u) ∨ (b = true ∧ slotsReady u = true ∧ t = sampleStep u c1 c2
       a)) := by
  simp only [exec, execTick] at h
  split at h
  · rename_i u hu
    refine ⟨u, hu, ?_⟩
    unfold afterDrain at h
    cases b
    · simp at h; simp [h]
    · simp at h; split at h <;> cases h; simp_all
  all_goals cases h

end Sys2Proof.Machine
end

