-- ==== Sys2Proof/Laws/Decode.lean ====
section
/-!
SUPPORT. Laws of the encoding (spec/30_encoding.md): the fields of an assembled header, the rows of the opcode map, and the tick record.
-/

namespace Sys2Proof

/-! ### Header fields -/

theorem append_and {m n : Nat} (a c : BitVec m) (b d : BitVec n) : (a ++ b) &&& (c ++ d) = (a &&& c) ++ (b &&& d)
    := by
  ext i hi; simp only [BitVec.getElem_and, BitVec.getElem_append]; split <;> rfl

/-- Masking a header masks its fields (R81). -/
theorem headerWord_and (d1 c1 d2 c2 : BitVec 4) (s1 s2 : BitVec 2) (k1 k2 : BitVec 3) (f1 g1 b1 f2 g2 b2 : BitVec
    1) (m1 n1 m2 n2 : BitVec 8) :
    headerWord d1 c1 s1 k1 f1 g1 b1 m1 n1 &&& headerWord d2 c2 s2 k2 f2 g2 b2 m2 n2 =
      headerWord (d1 &&& d2) (c1 &&& c2) (s1 &&& s2) (k1 &&& k2) (f1 &&& f2) (g1 &&& g2) (b1 &&& b2) (m1 &&& m2)
          (n1 &&& n2) := by
  unfold headerWord
  show (d1 ++ c1 ++ s1 ++ k1 ++ f1 ++ g1 ++ b1 ++ m1 ++ n1 : BitVec (4+4+2+3+1+1+1+8+8)) &&& (d2 ++ c2 ++ s2 ++ k2
      ++ f2 ++ g2 ++ b2 ++ m2 ++ n2 : BitVec (4+4+2+3+1+1+1+8+8)) = _
  simp only [append_and]

theorem foreignHeader_and (d1 c1 d2 c2 : BitVec 4) (l1 l2 : BitVec 24) :
    foreignHeader d1 c1 l1 &&& foreignHeader d2 c2 l2 = foreignHeader (d1 &&& d2) (c1 &&& c2) (l1 &&& l2) := by
  unfold foreignHeader
  show (d1 ++ c1 ++ l1 : BitVec (4+4+24)) &&& (d2 ++ c2 ++ l2 : BitVec (4+4+24)) = _
  simp only [append_and]

section fields

variable (dev cmd : BitVec 4) (slot : BitVec 2) (kind : BitVec 3) (form sign b : BitVec 1) (nff nfb : BitVec 8)

/-- Bit `i` of a header, by the field it lies in (R81). -/
theorem headerWord_getLsbD (i : Nat) : (headerWord dev cmd slot kind form sign b nff nfb).getLsbD i =
    if i < 8 then nfb.getLsbD i else if i < 16 then nff.getLsbD (i - 8) else if i < 17 then b.getLsbD (i - 16)
    else if i < 18 then sign.getLsbD (i - 17) else if i < 19 then form.getLsbD (i - 18) else if i < 22 then
        kind.getLsbD (i - 19)
    else if i < 24 then slot.getLsbD (i - 22) else if i < 28 then cmd.getLsbD (i - 24) else dev.getLsbD (i - 28) :=
        by
  show (dev ++ cmd ++ slot ++ kind ++ form ++ sign ++ b ++ nff ++ nfb : BitVec (4+4+2+3+1+1+1+8+8)).getLsbD i = _
  simp only [BitVec.getLsbD_append, Nat.sub_sub]
  by_cases h8 : i < 8
  · rw [if_pos (by omega), if_pos h8]
  rw [if_neg (by omega), if_neg h8]
  by_cases h16 : i < 16
  · rw [if_pos (by omega), if_pos h16]
  rw [if_neg (by omega), if_neg h16]
  by_cases h17 : i < 17
  · rw [if_pos (by omega), if_pos h17]
  rw [if_neg (by omega), if_neg h17]
  by_cases h18 : i < 18
  · rw [if_pos (by omega), if_pos h18]
  rw [if_neg (by omega), if_neg h18]
  by_cases h19 : i < 19
  · rw [if_pos (by omega), if_pos h19]
  rw [if_neg (by omega), if_neg h19]
  by_cases h22 : i < 22
  · rw [if_pos (by omega), if_pos h22]
  rw [if_neg (by omega), if_neg h22]
  by_cases h24 : i < 24
  · rw [if_pos (by omega), if_pos h24]
  rw [if_neg (by omega), if_neg h24]
  by_cases h28 : i < 28
  · rw [if_pos (by omega), if_pos h28]
  rw [if_neg (by omega), if_neg h28]

theorem hdrNfb_headerWord : hdrNfb (headerWord dev cmd slot kind form sign b nff nfb) = nfb.toNat := by
  unfold hdrNfb; congr 1; ext i hi
  rw [BitVec.getElem_extractLsb', headerWord_getLsbD]; simp [hi]

theorem hdrNff_headerWord : hdrNff (headerWord dev cmd slot kind form sign b nff nfb) = nff.toNat := by
  unfold hdrNff; congr 1; ext i hi
  rw [BitVec.getElem_extractLsb', headerWord_getLsbD, if_neg (by omega), if_pos (by omega)]; simp [hi]

theorem hdrB_headerWord : hdrB (headerWord dev cmd slot kind form sign b nff nfb) = b.getLsbD 0 := by
  unfold hdrB; rw [headerWord_getLsbD]; simp

theorem hdrSign_headerWord (sg : Sign) : hdrSign (headerWord dev cmd slot kind form sg.bit b nff nfb) = sg := by
  unfold hdrSign; rw [headerWord_getLsbD]; cases sg <;> rfl

theorem hdrCtrlSel_headerWord (sel : CtrlSel) : hdrCtrlSel (headerWord dev cmd sel.code kind form sign b nff nfb) =
    sel := by
  unfold hdrCtrlSel; rw [headerWord_getLsbD]; cases sel <;> rfl

theorem hdrResetSel_headerWord (sel : ResetSel) : hdrResetSel (headerWord dev cmd sel.code kind form sign b nff
    nfb) = sel := by
  unfold hdrResetSel; rw [headerWord_getLsbD, headerWord_getLsbD]; cases sel <;> rfl

end fields

/-- The ignored bits of a foreign header (R89). -/
theorem foreignHeader_low (d c low) : (foreignHeader d c low).extractLsb' 0 24 = low := by
  show (d ++ c ++ low : BitVec (4+4+24)).extractLsb' 0 24 = low
  ext i hi
  simp only [BitVec.getElem_extractLsb', BitVec.getLsbD_append]; simp [hi]

/-! ### The opcode map -/

/-- No two rows overlap (R88). -/
theorem rows_disjoint : ∀ r ∈ opcodeTable, ∀ q ∈ opcodeTable, r ≠ q → r.pattern &&& q.mask ≠ q.pattern &&& r.mask
    := by decide

/-- A header matches at most one row (R88). -/
theorem matches_unique {r q : TableRow} {h : Header} (hr : r ∈ opcodeTable) (hq : q ∈ opcodeTable) (h1 : r.matches
    h = true) (h2 : q.matches h = true) : r = q := by
  by_contra hne
  apply rows_disjoint r hr q hq hne
  simp only [TableRow.matches, beq_iff_eq] at h1 h2
  rw [← h1, ← h2, BitVec.and_assoc, BitVec.and_assoc, BitVec.and_comm r.mask]

/-- The row that a header matches is the one found. -/
theorem findOpcode_of_matches {r : TableRow} {h : Header} (hr : r ∈ opcodeTable) (h1 : r.matches h = true) :
    findOpcode h = some r.op := by
  unfold findOpcode
  cases hf : opcodeTable.find? (·.matches h) with
  | none => exact absurd h1 (by simpa using List.find?_eq_none.mp hf r hr)
  | some q =>
    have := matches_unique hr (List.mem_of_find?_eq_some hf) h1 (by simpa using List.find?_some hf)
    simp [this]

/-- What is found is a row that the header matches. -/
theorem findOpcode_some {h : Header} {op} (hf : findOpcode h = some op) : ∃ r ∈ opcodeTable, r.op = op ∧ r.matches
    h = true := by
  unfold findOpcode at hf
  simp only [Option.map_eq_some_iff] at hf
  obtain ⟨r, hr, rfl⟩ := hf
  exact ⟨r, List.mem_of_find?_eq_some hr, rfl, by simpa using List.find?_some hr⟩

theorem findOpcode_headerWord (op : Opcode) (pat mask : Header) (hr : (⟨op, pat, mask⟩ : TableRow) ∈ opcodeTable)
    (h : Header) (he : h &&& mask = pat) : findOpcode h = some op :=
  findOpcode_of_matches hr (by simpa [TableRow.matches] using he)

/-- The headers of a foreign row (R89). -/
theorem fam_foreign (op : Opcode) (dev cmd : BitVec 4) (low : BitVec 24) (hr : (⟨op, foreignHeader dev cmd 0,
    foreignHeader 15 15 0⟩ : TableRow) ∈ opcodeTable) :
   findOpcode (foreignHeader dev cmd low) = some op := by
  apply findOpcode_headerWord op _ _ hr
  rw [foreignHeader_and]
  congr 1
  · exact BitVec.and_allOnes
  · exact BitVec.and_allOnes
  · simp

/-- The headers of a row, by their fields (R89). -/
theorem fam_header (op : Opcode) (dev cmd : BitVec 4) (slot sm s0 : BitVec 2) (kind : BitVec 3) (form sign b bm b0
    gm g0 : BitVec 1) (nff nfb lm : BitVec 8)
   (hr : (⟨op, headerWord dev cmd s0 kind form g0 b0 0 0, headerWord 15 15 sm 7 1 gm bm lm lm⟩ : TableRow) ∈
       opcodeTable)
   (hs : slot &&& sm = s0) (hg : sign &&& gm = g0) (hb : b &&& bm = b0) (h1 : nff &&& lm = 0) (h2 : nfb &&& lm = 0)
       :
   findOpcode (headerWord dev cmd slot kind form sign b nff nfb) = some op := by
  apply findOpcode_headerWord op _ _ hr
  rw [headerWord_and, hs, hg, hb, h1, h2]
  congr 1
  · exact BitVec.and_allOnes
  · exact BitVec.and_allOnes
  · exact BitVec.and_allOnes
  · exact BitVec.and_allOnes

/-- The headers of a `filt` form (R84). -/
theorem row_filt (op) (slot : CtrlSel) (kind form) (sign : Sign) (ff fb : List NUM) (lm : BitVec 8)
   (hr : (⟨op, headerWord 3 0 0 kind form 0 0 0 0, headerWord 15 15 2 7 1 0 1 lm lm⟩ : TableRow) ∈ opcodeTable)
   (h1 : BitVec.ofNat 8 ff.length &&& lm = 0) (h2 : BitVec.ofNat 8 fb.length &&& lm = 0) :
   findOpcode (filtHeader slot.code kind form sign ff fb) = some op := by
  unfold filtHeader
  exact fam_header op 3 0 slot.code 2 0 kind form sign.bit 0 1 0 0 0 _ _ lm hr (by cases slot <;> rfl) (by cases
      sign <;> rfl) rfl h1 h2

/-- The decoding procedure, its three conditions met (R88). -/
theorem decode_ok {h : Header} {pay op i} (h1 : findOpcode h = some op) (h2 : lengthOk op ⟨h, pay⟩ = true) (h3 :
    assemble op h pay = some i) : decodeMessage ⟨h, pay⟩ = .ok i := by
  simp [decodeMessage, h1, h2, h3]

/-! ### The tick record -/

/-- Bits of four joined fields, by the field they lie in (R93). -/
theorem record_getLsbD (n : Bool) (c1 c2 a : NUM) (i : Nat) :
    (show TickWord from BitVec.ofBool n ++ c1 ++ c2 ++ a).getLsbD i =
      if i < 64 then a.getLsbD i else if i < 128 then c2.getLsbD (i - 64)
      else if i < 192 then c1.getLsbD (i - 128) else (BitVec.ofBool n).getLsbD (i - 192) := by
  show (BitVec.ofBool n ++ c1 ++ c2 ++ a : BitVec (1 + 64 + 64 + 64)).getLsbD i = _
  simp only [BitVec.getLsbD_append, Nat.sub_sub]
  by_cases h1 : i < 64
  · rw [if_pos (by omega), if_pos h1]
  rw [if_neg (by omega), if_neg h1]
  by_cases h2 : i < 128
  · rw [if_pos (by omega), if_pos h2]
  rw [if_neg (by omega), if_neg h2]
  by_cases h3 : i < 192
  · rw [if_pos (by omega), if_pos h3]
  rw [if_neg (by omega), if_neg h3]

/-- The fields of an assembled record are its parts (R93). -/
theorem decodeTick_record (n : Bool) (c1 c2 a : NUM) :
    decodeTick (BitVec.ofBool n ++ c1 ++ c2 ++ a) = .tick n c1 c2 a := by
  unfold decodeTick
  have h := record_getLsbD n c1 c2 a
  congr 1
  · rw [h]
    simp
  all_goals
    apply BitVec.eq_of_getLsbD_eq
    intro i hi
    rw [BitVec.getLsbD_extractLsb', h]
    simp only [hi, decide_true, Bool.true_and]
    grind

/-! ### Serialisation -/

/-- The bytes of a word stand for it, up to its width (R70). -/
theorem bytesWord_wordBytes (n v : Nat) : bytesWord (wordBytes n v) = v % 256 ^ n := by
  induction n generalizing v with
  | zero => simp [wordBytes, bytesWord, Nat.mod_one]
  | succ n ih =>
    simp only [wordBytes, bytesWord, BitVec.toNat_ofNat, ih]
    rw [show 256 ^ (n + 1) = 256 * 256 ^ n from Nat.pow_succ', Nat.mod_mul]

/-- The payload words of serialised words are the words (R70). -/
theorem payloadOfBytes_flatMap (pay : List NUM) :
    payloadOfBytes (pay.flatMap fun v => wordBytes 8 v.toNat) = some pay := by
  induction pay with
  | nil => rfl
  | cons v pay ih =>
    have h : BitVec.ofNat 64 (bytesWord (wordBytes 8 v.toNat)) = v := by
      rw [bytesWord_wordBytes]
      exact BitVec.eq_of_toNat_eq (by simp [Nat.mod_eq_of_lt v.isLt])
    simp only [wordBytes] at h ih
    simp only [List.flatMap_cons, wordBytes, List.cons_append, List.nil_append, payloadOfBytes]
    rw [h, ih, Option.map_some]

/-- A serialised message is read back as that message (R70). -/
theorem messageOfBytes_bytes (m : Message) : messageOfBytes m.bytes = some m := by
  have h : BitVec.ofNat 32 (bytesWord (wordBytes 4 m.hdr.toNat)) = m.hdr := by
    rw [bytesWord_wordBytes]
    exact BitVec.eq_of_toNat_eq (by simp [Nat.mod_eq_of_lt m.hdr.isLt])
  have hp := payloadOfBytes_flatMap m.pay
  simp only [wordBytes] at h hp
  simp only [Message.bytes, wordBytes, List.cons_append, List.nil_append, messageOfBytes]
  rw [h, hp, Option.map_some]

end Sys2Proof
end

