-- ==== Sys2Proof/Laws/Float64.lean ====
section
/-!
SUPPORT. Laws of NUM arithmetic: the fields of a NUM, comparison, clamping, and NaN (spec/00_scope.md R11, R12).
-/

namespace Sys2Proof.Machine

/-! ### Fields -/

/-- The three fields of a NUM, their ranges, and bits 62:0 (R94). -/
theorem num_bits (x : NUM) : x.toNat = (if signBit x then 2^63 else 0) + expField x * 2^52 + fracField x ∧ expField
    x < 2048 ∧ fracField x < 2^52 ∧ magField x = expField x * 2^52 + fracField x := by
  have := x.isLt
  unfold signBit expField fracField magField
  refine ⟨?_, by omega, by omega, by omega⟩
  split <;> rename_i h <;> simp at h <;> omega

/-- A NUM is its sign and its bits 62:0. -/
theorem num_ext {x y : NUM} (hs : signBit x = signBit y) (hm : magField x = magField y) : x = y := by
  apply BitVec.eq_of_toNat_eq
  have hx := num_bits x; have hy := num_bits y
  rw [hx.1, hy.1, hs]; omega

/-- No number lies beyond the infinities. -/
theorem inf_bound {x : NUM} (h : isNaN x = false) : magField x ≤ 2047 * 2^52 := by
  obtain ⟨_, h1, h2, h3⟩ := num_bits x
  simp [isNaN] at h
  by_cases he : expField x = 2047
  · have := h he; omega
  · omega

/-! ### Comparison -/

/-- `a < b`, by keys. -/
theorem flt_eq (a b) : flt a b = true ↔ isNaN a = false ∧ isNaN b = false ∧ numKey a < numKey b := by simp [flt,
    and_assoc]

/-- `a ≤ b`, by keys. -/
theorem fle_eq (a b) : fle a b = true ↔ isNaN a = false ∧ isNaN b = false ∧ numKey a ≤ numKey b := by simp [fle,
    and_assoc]

/-- `a = b`, by keys. -/
theorem feq_eq (a b) : feq a b = true ↔ isNaN a = false ∧ isNaN b = false ∧ numKey a = numKey b := by simp [feq,
    and_assoc]

/-! ### Clamping -/

/-- A NaN passes a clamp (R12). -/
theorem clamp_nan {x lo hi} (h : isNaN x = true) : clamp x lo hi = x := by simp [clamp, flt, h]

/-- All that a clamp can answer (R12). -/
theorem clamp_cases (x lo hi : NUM) :
    (flt x lo = true ∧ clamp x lo hi = lo) ∨
      (flt x lo = false ∧ flt hi x = true ∧ clamp x lo hi = hi) ∨
      (flt x lo = false ∧ flt hi x = false ∧ clamp x lo hi = x) := by
  unfold clamp
  cases h1 : flt x lo <;> cases h2 : flt hi x <;> simp

/-! ### NaN -/

/-- Every produced NaN is one (U4). -/
theorem isNaN_producedNaN (op a b) : isNaN (producedNaN op a b) = true := by
  unfold producedNaN; dsimp only; split
  · assumption
  · decide

/-- Flipping the sign keeps a NaN. -/
theorem isNaN_fneg (a) : isNaN (fneg a) = isNaN a := by
  have h : fneg a = a ^^^ 0x8000000000000000#64 := rfl
  have h1 : (fneg a).toNat % 2^63 = a.toNat % 2^63 := by
    have : (fneg a).setWidth 63 = a.setWidth 63 := by
      rw [h]; ext i hi; simp
    have := congrArg BitVec.toNat this
    simpa using this
  have h2 : expField (fneg a) = expField a := by unfold expField; omega
  have h3 : fracField (fneg a) = fracField a := by unfold fracField; omega
  simp [isNaN, h2, h3]

/-- A sum with a NaN is a NaN. -/
theorem fadd_nan {a b} (h : isNaN a = true ∨ isNaN b = true) : isNaN (fadd a b) = true := by
  have : (isNaN a || isNaN b) = true := by simpa using h
  simp [fadd, this, isNaN_producedNaN]

/-- A product with a NaN is a NaN. -/
theorem fmul_nan {a b} (h : isNaN a = true ∨ isNaN b = true) : isNaN (fmul a b) = true := by
  have : (isNaN a || isNaN b) = true := by simpa using h
  simp [fmul, this, isNaN_producedNaN]

/-- A difference with a NaN is a NaN. -/
theorem fsub_nan {a b} (h : isNaN a = true ∨ isNaN b = true) : isNaN (fsub a b) = true := by
  apply fadd_nan; rwa [isNaN_fneg]

end Sys2Proof.Machine
end

