-- ==== Sys2Proof/Laws/PerInstr.lean ====
section
/-!
SUPPORT. One lemma per instruction: its encoding selects its own row of the opcode map (spec/30_encoding.md R84, R85, R89).
-/

open Sys2Proof Sys2Proof.Machine

/-- The row of the opcode map that the encoding of an instruction selects; none for a tick record. -/
def Sys2Proof.Laws.HeaderRow.selected (i : Instr) : Option Opcode :=
  match encode i with
  | .message m => findOpcode m.hdr
  | .tickRecord _ => none

/-- The encoding of a well-formed instruction selects the instruction's own row. -/
def Sys2Proof.Laws.HeaderRow.Statement (i : Instr) : Prop :=
  i.wf = true → Sys2Proof.Laws.HeaderRow.selected i = opcodeOf i

namespace Sys2Proof.Laws.HeaderRow

theorem acqRate (low : BitVec 24) (pay : List NUM) : Statement (.acqRate low pay) :=
  fun _ => fam_foreign .acqRate 1 0 low (by decide)

theorem acqChannels (low : BitVec 24) (pay : List NUM) : Statement (.acqChannels low pay) :=
  fun _ => fam_foreign .acqChannels 1 1 low (by decide)

theorem acqConnect (low : BitVec 24) (pay : List NUM) : Statement (.acqConnect low pay) :=
  fun _ => fam_foreign .acqConnect 1 2 low (by decide)

theorem acqDisconnect (low : BitVec 24) (pay : List NUM) : Statement (.acqDisconnect low pay) :=
  fun _ => fam_foreign .acqDisconnect 1 3 low (by decide)

theorem acqDevices (low : BitVec 24) (pay : List NUM) : Statement (.acqDevices low pay) :=
  fun _ => fam_foreign .acqDevices 1 4 low (by decide)

theorem actFreq (value : NUM) : Statement (.actFreq value) :=
  fun _ => show findOpcode (plainHeader 2 0 0) = some .actFreq by decide

theorem actAmp (low : BitVec 24) (pay : List NUM) : Statement (.actAmp low pay) :=
  fun _ => fam_foreign .actAmp 2 1 low (by decide)

theorem actPhase (low : BitVec 24) (pay : List NUM) : Statement (.actPhase low pay) :=
  fun _ => fam_foreign .actPhase 2 2 low (by decide)

theorem actEn (b : Bool) : Statement (.actEn b) := by
  cases b <;> exact fun _ => rfl

theorem actConnect (low : BitVec 24) (pay : List NUM) : Statement (.actConnect low pay) :=
  fun _ => fam_foreign .actConnect 2 4 low (by decide)

theorem actDisconnect (low : BitVec 24) (pay : List NUM) : Statement (.actDisconnect low pay) :=
  fun _ => fam_foreign .actDisconnect 2 5 low (by decide)

theorem actDevices (low : BitVec 24) (pay : List NUM) : Statement (.actDevices low pay) :=
  fun _ => fam_foreign .actDevices 2 6 low (by decide)

theorem filtLoadPid (slot : CtrlSel) (sign : Sign) (p : PidParams) : Statement (.filtLoadPid slot sign p) :=
  fun _ => row_filt .filtLoadPid slot 0 0 sign [] [] 255 (by decide) rfl rfl

theorem filtLoadI1LP1 (slot : CtrlSel) (sign : Sign) (p : LoopParams) (ff fb : List NUM) :
    Statement (.filtLoadI1LP1 slot sign p ff fb) :=
  fun _ => row_filt .filtLoadI1LP1 slot 1 0 sign ff fb 0 (by decide) (by simp) (by simp)

theorem filtLoadI1LP2 (slot : CtrlSel) (sign : Sign) (p : LoopParams) (ff fb : List NUM) :
    Statement (.filtLoadI1LP2 slot sign p ff fb) :=
  fun _ => row_filt .filtLoadI1LP2 slot 2 0 sign ff fb 0 (by decide) (by simp) (by simp)

theorem filtLoadI2LP1 (slot : CtrlSel) (sign : Sign) (p : LoopParams) (ff fb : List NUM) :
    Statement (.filtLoadI2LP1 slot sign p ff fb) :=
  fun _ => row_filt .filtLoadI2LP1 slot 3 0 sign ff fb 0 (by decide) (by simp) (by simp)

theorem filtLoadI2LP2 (slot : CtrlSel) (sign : Sign) (p : LoopParams) (ff fb : List NUM) :
    Statement (.filtLoadI2LP2 slot sign p ff fb) :=
  fun _ => row_filt .filtLoadI2LP2 slot 4 0 sign ff fb 0 (by decide) (by simp) (by simp)

theorem filtLoadLP (ff fb : List NUM) : Statement (.filtLoadLP ff fb) :=
  fun _ =>
    fam_header .filtLoadLP 3 0 2 3 2 5 0 0 0 1 0 1 0 _ _ 0 (by decide) (by simp) (by simp) (by simp) (by simp) (by simp)

theorem filtDesignI1LP1 (slot : CtrlSel) (sign : Sign) (p : LoopParams) (d : DesignParams) :
    Statement (.filtDesignI1LP1 slot sign p d) :=
  fun _ => row_filt .filtDesignI1LP1 slot 1 1 sign [] [] 255 (by decide) rfl rfl

theorem filtDesignI1LP2 (slot : CtrlSel) (sign : Sign) (p : LoopParams) (d : DesignParams) :
    Statement (.filtDesignI1LP2 slot sign p d) :=
  fun _ => row_filt .filtDesignI1LP2 slot 2 1 sign [] [] 255 (by decide) rfl rfl

theorem filtDesignI2LP1 (slot : CtrlSel) (sign : Sign) (p : LoopParams) (d : DesignParams) :
    Statement (.filtDesignI2LP1 slot sign p d) :=
  fun _ => row_filt .filtDesignI2LP1 slot 3 1 sign [] [] 255 (by decide) rfl rfl

theorem filtDesignI2LP2 (slot : CtrlSel) (sign : Sign) (p : LoopParams) (d : DesignParams) :
    Statement (.filtDesignI2LP2 slot sign p d) :=
  fun _ => row_filt .filtDesignI2LP2 slot 4 1 sign [] [] 255 (by decide) rfl rfl

theorem filtDesignLP (d : DesignParams) : Statement (.filtDesignLP d) :=
  fun _ => show findOpcode (filtHeader 2 5 1 .plus [] []) = some .filtDesignLP by decide

theorem lpApply (b : Bool) : Statement (.lpApply b) := by
  cases b <;> exact fun _ => rfl

theorem reset (sel : ResetSel) (padding : NUM) : Statement (.reset sel padding) :=
  fun _ => show findOpcode (headerWord 3 2 sel.code 0 0 0 0 0 0) = some .reset by cases sel <;> decide

theorem lockB0 : Statement .lockB0 :=
  fun _ => rfl

theorem lockB1 : Statement .lockB1 :=
  fun _ => rfl

theorem sp (setpoint : NUM) : Statement (.sp setpoint) :=
  fun _ => show findOpcode (plainHeader 3 4 0) = some .sp by decide

theorem modeB0 : Statement .modeB0 :=
  fun _ => rfl

theorem modeB1 : Statement .modeB1 :=
  fun _ => rfl

theorem tick (isNew : Bool) (ch1 ch2 avg : NUM) : Statement (.tick isNew ch1 ch2 avg) :=
  fun _ => rfl

end Sys2Proof.Laws.HeaderRow
end

