-- ==== Sys2Proof/Tests/Slice0.lean ====
section
/-!
SUPPORT. Tests: well-formedness, decoding of words written out from spec/30_encoding.md, vectors and single steps of
spec/95_test_vectors.md, and for every obligation with hypotheses a witness that meets them. Every expected value is the spec's.
-/

namespace Sys2Proof.Tests

open Sys2Proof Sys2Proof.Machine

/- One theorem after the other: elaborating them side by side takes a thread, and its stack, for each. -/
set_option Elab.async false

/-! ### Values and states -/

/-- 0.25 -/
abbrev nQuarter : NUM := 0x3FD0000000000000#64
/-- 1.5 -/
abbrev n1h : NUM := 0x3FF8000000000000#64
/-- 2.0 -/
abbrev n2 : NUM := 0x4000000000000000#64
/-- 2.5 -/
abbrev n2h : NUM := 0x4004000000000000#64
/-- 4.0 -/
abbrev n4 : NUM := 0x4010000000000000#64
/-- 8.0 -/
abbrev n8 : NUM := 0x4020000000000000#64
/-- 10.0 -/
abbrev n10 : NUM := 0x4024000000000000#64
/-- 10.5 -/
abbrev n10h : NUM := 0x4025000000000000#64
/-- 12.0 -/
abbrev n12 : NUM := 0x4028000000000000#64
/-- 20.0 -/
abbrev n20 : NUM := 0x4034000000000000#64
/-- 50.0 -/
abbrev n50 : NUM := 0x4049000000000000#64
/-- −50.0 -/
abbrev m50 : NUM := 0xC049000000000000#64
/-- 100.0 -/
abbrev n100 : NUM := 0x4059000000000000#64
/-- −100.0 -/
abbrev m100 : NUM := 0xC059000000000000#64
/-- +Inf -/
abbrev nInf : NUM := 0x7FF0000000000000#64
/-- A quiet NaN. -/
abbrev nNaN : NUM := 0x7FF8000000000000#64
/-- `10^(−1/20)` -/
abbrev nDp : NUM := 0x3FEC8520AFFA0A4B#64
/-- `10^(−10/20)` -/
abbrev nDs : NUM := 0x3FD43D136248490F#64

/-- The scalars `1, 0, −100, 100, −50, 50` of the vectors V60 to V66. -/
abbrev loopP : LoopParams := ⟨NUM.one, NUM.zero, m100, n100, m50, n50⟩

/-- Scalars with `out_lo > out_hi`. -/
abbrev loopBad : LoopParams := ⟨NUM.one, NUM.zero, n100, m100, m50, n50⟩

/-- `kp=2, ki=1, kd=0.5, gain=1, lead=0.5`, bounds `±25`, integrator bounds `±20` (V30). -/
abbrev pidP : PidParams :=
  ⟨n2, NUM.one, NUM.half, NUM.one, NUM.half, 0xC039000000000000#64, 0x4039000000000000#64, 0xC034000000000000#64, n20⟩

/-- Scalars of a PID with `int_lo > int_hi`. -/
abbrev pidBad : PidParams := { pidP with intLo := n20, intHi := NUM.zero }

/-- The operands of the source's design, V40. -/
abbrev design : DesignParams := ⟨NUM.one, n20, nDp, nDs, NUM.one, n100⟩

/-- `DT = 1, MARGIN = 1, COUNTER_LIMIT = 2, LP_ORDER = BEFORE, MANUAL0 = 2` (V60). -/
abbrev cfg0 : Cfg := ⟨NUM.one, NUM.one, 2, .before, n2⟩

/-- Right after RESET. -/
abbrev state0 : State := State.resetWith ⟨8, 32⟩ cfg0 []

/-- A fresh `I1LP1`: `ki=1, ff=[1], fb=[0]` (V60). -/
abbrev slotI1 : CtrlSlot := cfConstruct 8 (CtrlSlot.invalid 8) .i1lp1 .plus (.loop loopP [NUM.one] [NUM.zero])

/-- A fresh PID (V30). -/
abbrev slotPid : CtrlSlot := cfConstruct 8 (CtrlSlot.invalid 8) .pid .plus (.pid pidP)

/-- The auxiliary lowpass of program P5: `ff=[0.25, 0.25], fb=[0.5]`. -/
abbrev auxP5 : AuxSlot := auxApply 8 (AuxSlot.invalid 8) [nQuarter, nQuarter] [NUM.half]

/-- The set-up of V60, before LOCK. -/
abbrev ready : State := { state0 with freq := slotI1, phase := slotI1, actEn := true, sp := n10, tgt := .phase }

/-- The set-up of V60, after LOCK. -/
abbrev locked : State :=
  { ready with lockState := .freqLocked, freq := cfSeed 8 slotI1 n2, ctrl := n2, ctrlValid := true }

/-- V60 in Phase mode, with the counter at 1. -/
abbrev inPhase : State := { locked with lockState := .phaseLocked, cnt := 1 }

/-- The record of a TICK with a new sample that has AVG = CH1 = CH2. -/
abbrev tickRec (v : NUM) : TickWord := BitVec.ofBool true ++ v ++ v ++ v

/-- The outcome is a next state with the property. -/
def holdsNext (r : Result) (p : State → Bool) : Bool :=
  match r with
  | .next t => p t
  | _ => false

theorem next_of {r : Result} {p : State → Prop} [DecidablePred p]
    (h : holdsNext r (fun t => decide (p t)) = true) : ∃ t, r = .next t ∧ p t := by
  cases r with
  | next t => exact ⟨t, rfl, of_decide_eq_true h⟩
  | fault f => cases h
  | refused f => cases h

/-- The outcome of the message on the state is a next state with these outputs only (R201). -/
def answers (h : Header) (pay : List NUM) (e : Status) : Bool :=
  holdsNext (execMessage ⟨h, pay⟩ state0) fun t => t == { state0 with out := [.rsp e] }

/-! ### Well-formedness: a coefficient vector of 256 words has no encoding (R81) -/

/-- 256 words. -/
abbrev long : List NUM := List.replicate 256 NUM.zero

theorem test_wf_i1lp1_refuses_ff : (Instr.filtLoadI1LP1 .freq .plus loopP long []).wf = false := by decide +kernel

theorem test_wf_i1lp1_refuses_fb : (Instr.filtLoadI1LP1 .freq .plus loopP [] long).wf = false := by decide +kernel

theorem test_wf_i1lp2_refuses_ff : (Instr.filtLoadI1LP2 .freq .plus loopP long []).wf = false := by decide +kernel

theorem test_wf_i1lp2_refuses_fb : (Instr.filtLoadI1LP2 .freq .plus loopP [] long).wf = false := by decide +kernel

theorem test_wf_i2lp1_refuses_ff : (Instr.filtLoadI2LP1 .freq .plus loopP long []).wf = false := by decide +kernel

theorem test_wf_i2lp1_refuses_fb : (Instr.filtLoadI2LP1 .freq .plus loopP [] long).wf = false := by decide +kernel

theorem test_wf_i2lp2_refuses_ff : (Instr.filtLoadI2LP2 .freq .plus loopP long []).wf = false := by decide +kernel

theorem test_wf_i2lp2_refuses_fb : (Instr.filtLoadI2LP2 .freq .plus loopP [] long).wf = false := by decide +kernel

theorem test_wf_lp_refuses_ff : (Instr.filtLoadLP long []).wf = false := by decide +kernel

theorem test_wf_lp_refuses_fb : (Instr.filtLoadLP [] long).wf = false := by decide +kernel

theorem test_framed_refuses : (Message.mk 0 (List.replicate 23 NUM.zero)).framed 8 = false := by decide

theorem test_framed_accepts : (Message.mk 0 (List.replicate 22 NUM.zero)).framed 8 = true := by decide

/-! ### Decoding: one word per row, from the table of V70 and the patterns of R89 -/

theorem test_decode_acqRate : decodeMessage ⟨0x10ABCDEF#32, [n2]⟩ = .ok (.acqRate 0xABCDEF [n2]) := by rfl

theorem test_decode_acqChannels : decodeMessage ⟨0x11000001#32, []⟩ = .ok (.acqChannels 1 []) := by rfl

theorem test_decode_acqConnect : decodeMessage ⟨0x12000000#32, []⟩ = .ok (.acqConnect 0 []) := by rfl

theorem test_decode_acqDisconnect : decodeMessage ⟨0x13000000#32, []⟩ = .ok (.acqDisconnect 0 []) := by rfl

theorem test_decode_acqDevices : decodeMessage ⟨0x1400ABCD#32, []⟩ = .ok (.acqDevices 0x00ABCD []) := by rfl

theorem test_decode_actFreq : decodeMessage ⟨0x20000000#32, [n2]⟩ = .ok (.actFreq n2) := by rfl

theorem test_decode_actAmp : decodeMessage ⟨0x21000000#32, [n2, n4]⟩ = .ok (.actAmp 0 [n2, n4]) := by rfl

theorem test_decode_actPhase : decodeMessage ⟨0x22000000#32, []⟩ = .ok (.actPhase 0 []) := by rfl

theorem test_decode_actEn : decodeMessage ⟨0x23010000#32, []⟩ = .ok (.actEn true) := by rfl

theorem test_decode_actConnect : decodeMessage ⟨0x24000000#32, []⟩ = .ok (.actConnect 0 []) := by rfl

theorem test_decode_actDisconnect : decodeMessage ⟨0x25000000#32, []⟩ = .ok (.actDisconnect 0 []) := by rfl

theorem test_decode_actDevices : decodeMessage ⟨0x26FFFFFF#32, []⟩ = .ok (.actDevices 0xFFFFFF []) := by rfl

theorem test_decode_filtLoadPid : decodeMessage ⟨0x30420000#32, [1, 2, 3, 4, 5, 6, 7, 8, 9]⟩ =
    .ok (.filtLoadPid .phase .minus ⟨1, 2, 3, 4, 5, 6, 7, 8, 9⟩) := by rfl

theorem test_decode_filtLoadI1LP1 : decodeMessage ⟨0x30080201#32, [1, 2, 3, 4, 5, 6, 7, 8, 9]⟩ =
    .ok (.filtLoadI1LP1 .freq .plus ⟨1, 2, 3, 4, 5, 6⟩ [7, 8] [9]) := by rfl

theorem test_decode_filtLoadI1LP2 : decodeMessage ⟨0x30100101#32, [1, 2, 3, 4, 5, 6, 7, 8]⟩ =
    .ok (.filtLoadI1LP2 .freq .plus ⟨1, 2, 3, 4, 5, 6⟩ [7] [8]) := by rfl

theorem test_decode_filtLoadI2LP1 : decodeMessage ⟨0x30180101#32, [1, 2, 3, 4, 5, 6, 7, 8]⟩ =
    .ok (.filtLoadI2LP1 .freq .plus ⟨1, 2, 3, 4, 5, 6⟩ [7] [8]) := by rfl

theorem test_decode_filtLoadI2LP2 : decodeMessage ⟨0x30620302#32, [1, 2, 3, 4, 5, 6, 7, 8, 9, 10, 11]⟩ =
    .ok (.filtLoadI2LP2 .phase .minus ⟨1, 2, 3, 4, 5, 6⟩ [7, 8, 9] [10, 11]) := by rfl

theorem test_decode_filtLoadLP : decodeMessage ⟨0x30A80201#32, [1, 2, 3]⟩ = .ok (.filtLoadLP [1, 2] [3]) := by rfl

theorem test_decode_filtDesignI1LP1 : decodeMessage ⟨0x300C0000#32, [1, 2, 3, 4, 5, 6, 7, 8, 9, 10, 11, 12]⟩ =
    .ok (.filtDesignI1LP1 .freq .plus ⟨1, 2, 3, 4, 5, 6⟩ ⟨7, 8, 9, 10, 11, 12⟩) := by rfl

theorem test_decode_filtDesignI1LP2 : decodeMessage ⟨0x30540000#32, [1, 2, 3, 4, 5, 6, 7, 8, 9, 10, 11, 12]⟩ =
    .ok (.filtDesignI1LP2 .phase .plus ⟨1, 2, 3, 4, 5, 6⟩ ⟨7, 8, 9, 10, 11, 12⟩) := by rfl

theorem test_decode_filtDesignI2LP1 : decodeMessage ⟨0x301E0000#32, [1, 2, 3, 4, 5, 6, 7, 8, 9, 10, 11, 12]⟩ =
    .ok (.filtDesignI2LP1 .freq .minus ⟨1, 2, 3, 4, 5, 6⟩ ⟨7, 8, 9, 10, 11, 12⟩) := by rfl

theorem test_decode_filtDesignI2LP2 : decodeMessage ⟨0x30240000#32, [1, 2, 3, 4, 5, 6, 7, 8, 9, 10, 11, 12]⟩ =
    .ok (.filtDesignI2LP2 .freq .plus ⟨1, 2, 3, 4, 5, 6⟩ ⟨7, 8, 9, 10, 11, 12⟩) := by rfl

theorem test_decode_filtDesignLP : decodeMessage ⟨0x30AC0000#32, [1, 2, 3, 4, 5, 6]⟩ =
    .ok (.filtDesignLP ⟨1, 2, 3, 4, 5, 6⟩) := by rfl

theorem test_decode_lpApply : decodeMessage ⟨0x31010000#32, []⟩ = .ok (.lpApply true) := by rfl

theorem test_decode_reset_freq : decodeMessage ⟨0x32000000#32, [n2h]⟩ = .ok (.reset .freq n2h) := by rfl

theorem test_decode_reset_phase : decodeMessage ⟨0x32400000#32, [n2h]⟩ = .ok (.reset .phase n2h) := by rfl

theorem test_decode_reset_aux : decodeMessage ⟨0x32800000#32, [n2h]⟩ = .ok (.reset .aux n2h) := by rfl

theorem test_decode_reset_all : decodeMessage ⟨0x32C00000#32, [n2h]⟩ = .ok (.reset .all n2h) := by rfl

theorem test_decode_lockB0 : decodeMessage ⟨0x33000000#32, []⟩ = .ok .lockB0 := by rfl

theorem test_decode_lockB1 : decodeMessage ⟨0x33010000#32, []⟩ = .ok .lockB1 := by rfl

theorem test_decode_sp : decodeMessage ⟨0x34000000#32, [n10]⟩ = .ok (.sp n10) := by rfl

theorem test_decode_modeB0 : decodeMessage ⟨0x35000000#32, []⟩ = .ok .modeB0 := by rfl

theorem test_decode_modeB1 : decodeMessage ⟨0x35010000#32, []⟩ = .ok .modeB1 := by rfl

/-- A record with NEW = 1, CH1 = 2.0, CH2 = 4.0, AVG = 8.0, the fields placed by hand as R93 says. -/
theorem test_decode_tick :
    decodeTick 0x1400000000000000040100000000000004020000000000000#193 = .tick true n2 n4 n8 := by decide

/-! ### Decode errors and the order of checks: V71, V72 -/

/-- `SP ; payload 10.0` as bytes: header 34000000H and 4024000000000000H, least significant byte first (R70). -/
theorem test_bytes_sp : (Message.mk 0x34000000#32 [n10]).bytes =
    [0x00, 0x00, 0x00, 0x34, 0x00, 0x00, 0x00, 0x00, 0x00, 0x00, 0x24, 0x40] := by decide

theorem test_bytes_left_over : messageOfBytes [0x00, 0x00, 0x00, 0x34, 0x00] = none := by decide

theorem test_error_device : answers 0x40000000#32 [] .badCommand = true := by decide

theorem test_error_device_0 : answers 0x00000000#32 [] .badCommand = true := by decide

theorem test_error_command : answers 0x36000000#32 [] .badCommand = true := by decide

theorem test_error_bit_17 : answers 0x33020000#32 [] .badCommand = true := by decide

theorem test_error_loop_to_aux : answers 0x30880101#32 [] .badCommand = true := by decide

theorem test_error_lp_to_freq : answers 0x30280101#32 [] .badCommand = true := by decide

theorem test_error_kind : answers 0x30300000#32 [] .badCommand = true := by decide

theorem test_error_sp_length : answers 0x34000000#32 [] .formatError = true := by decide

theorem test_error_loop_length : answers 0x30080201#32 [1, 2, 3, 4, 5, 6, 7, 8] .formatError = true := by decide

theorem test_error_lock_length : answers 0x33010000#32 [1] .formatError = true := by decide

theorem test_foreign_any_length : answers 0x21000000#32 [1, 2] .ok = true := by decide

theorem test_foreign_low_bits : answers 0x1400ABCD#32 [] .ok = true := by decide

theorem test_error_param_after_format : answers 0x30080001#32 [1, 2, 3, 4, 5, 6, 7] .paramError = true := by decide

theorem test_error_format_first : answers 0x30080001#32 [1, 2, 3, 4, 5, 6, 7, 8] .formatError = true := by decide

/-! ### The fixed entry points -/

theorem test_table_word_lock : decodeTableWord 32 0x33010000 = some .lockB1 := by decide

theorem test_table_word_reserved : decodeTableWord 32 0x40000000 = none := by decide

theorem test_table_word_tick : decodeTableWord 200 (2 ^ 192 + 1) = some (.tick true 0 0 1) := by decide

/-- The next step runs the placed instruction: LPAPPLY with B = 0. -/
theorem test_fetch_word : holdsNext (step ((State.reset).withFetchWord 32 0x31000000))
    (fun t => t.cq == [] && t.out == [.rsp .ok]) = true := by decide +kernel

/-! ### NUM arithmetic: V10, V11, V22 -/

theorem test_clamp_above : clamp 0x401C000000000000#64 0xC014000000000000#64 0x4014000000000000#64 =
    0x4014000000000000#64 := by decide +kernel

theorem test_clamp_negative_zero : clamp 0x8000000000000000#64 NUM.zero NUM.one = 0x8000000000000000#64 := by
  decide +kernel

theorem test_add_order_left : fadd (fadd 0x3FB999999999999A#64 0x3FC999999999999A#64) 0x3FD3333333333333#64 =
    0x3FE3333333333334#64 := by decide +kernel

theorem test_add_order_right : fadd 0x3FB999999999999A#64 (fadd 0x3FC999999999999A#64 0x3FD3333333333333#64) =
    0x3FE3333333333333#64 := by decide +kernel

/-- The sign of zero of the identity filter (V22). -/
theorem test_zero_sign : (rfUpdate 8 (loadCoefs (Coefs.unspecified 8) [NUM.one] [NUM.zero]) (rfReset 8 NUM.zero)
    0x8000000000000000#64).2 = NUM.zero := by decide +kernel

/-! ### The Recursive Filter: V20 step 2 -/

theorem test_filter_step : (rfUpdate 8 auxP5.coef ⟨n4 :: List.replicate 7 NUM.zero, NUM.one :: List.replicate 7 NUM.zero⟩ n4).2 =
    n2h := by decide +kernel

/-! ### Control filters: V30 update 4, V36 update 11, V38, V39 (a) -/

theorem test_pid_update : (cfUpdate 8 NUM.one { slotPid with i := n20, eprev := n8, dprev := NUM.half } n8 NUM.zero) =
    ({ slotPid with
        i := n20, eprev := n8, dprev := nQuarter, lastout := 0x4039000000000000#64, lastoutValid := true },
      0x4039000000000000#64) := by decide +kernel

/-- `I` from 42 to 40, `II` 30, `y` 4, output 74. -/
theorem test_double_integrator_update :
    let p : LoopParams := ⟨n2, NUM.half, m100, n100, 0xC044000000000000#64, 0x4044000000000000#64⟩
    let F := cfConstruct 8 (CtrlSlot.invalid 8) .i2lp1 .plus (.loop p [NUM.half, NUM.half] [NUM.zero])
    let r := cfUpdate 8 NUM.half
      { F with
        i := 0x4043000000000000#64, ii := 0x4039000000000000#64, eprev := n4
        h1 := ⟨List.replicate 8 n4, List.replicate 8 n4⟩ } n4 NUM.zero
    r.1.i = 0x4044000000000000#64 ∧ r.1.ii = 0x403E000000000000#64 ∧ r.2 = 0x4052800000000000#64 := by decide +kernel

/-- `F.KI = −0.0`: the guard takes the fallback, `II` stays 3.0 and the output is 7.0. -/
theorem test_zero_ki_guard :
    let p : LoopParams := ⟨0x8000000000000000#64, NUM.one, m100, n100, m50, n50⟩
    let F := cfConstruct 8 (CtrlSlot.invalid 8) .i2lp1 .plus (.loop p [NUM.one] [NUM.zero])
    let r := cfUpdate 8 NUM.one (cfSetoff F 0x4008000000000000#64) n4 NUM.zero
    r.1.ii = 0x4008000000000000#64 ∧ r.2 = 0x401C000000000000#64 := by decide +kernel

/-- An infinite setpoint: the accumulator and the output stop at their bounds. -/
theorem test_infinite_error :
    let r := cfUpdate 8 NUM.one slotI1 nInf NUM.zero
    r.1.i = n50 ∧ r.2 = n100 ∧ r.1.eprev = nInf := by decide +kernel

/-! ### The synthesizer: V40, V41, V45 -/

theorem test_design_order : synValidate design = none ∧ synOrder 8 design = some 1 ∧ cutoffFits design 1 = true := by
  decide +kernel

/-- The vectors that V40 gives are within the tolerances of the exact ones. -/
theorem test_design_coefficients :
    acceptable design 1 ([0x3FADCEE18CD946E0#64, 0x3FADCEE18CD946E0#64], [0x3FEC4623CE64D724#64]) = true := by
  decide +kernel

/-- Feedback coefficients off by a part in a thousand million lose the response of a low cutoff (R162): `(1, 4, δp, 0.1, 1, 10000)`. -/
theorem test_design_response :
    let d : DesignParams := ⟨NUM.one, n4, nDp, 0x3FB999999999999A#64, NUM.one, 0x40C3880000000000#64⟩
    keepsResponse d 3 (nearestVectors d 3) = true ∧
      keepsResponse d 3 ((nearestVectors d 3).1, (nearestVectors d 3).2.map (· + 4000000#64)) = false := by decide +kernel

theorem test_design_order_3 : synOrder 8 ⟨NUM.one, n4, nDp, 0x3FB999999999999A#64, NUM.one, n100⟩ = some 3 := by
  decide +kernel

theorem test_design_order_too_high : synOrder 8 ⟨NUM.one, n1h, nDp, 0x3FB999999999999A#64, NUM.one, n100⟩ = none := by
  decide +kernel

theorem test_design_equal_frequencies : synValidate { design with wp := n20 } = some .designFreqError := by
  decide +kernel

theorem test_design_half_sampling : synValidate { design with ws := n50 } = some .designFreqError := by decide +kernel

theorem test_design_swapped : synValidate { design with dp := nDs, ds := nDp } = some .designAttError := by
  decide +kernel

theorem test_design_infinite_gain : synValidate { design with g := nInf } = some .paramError := by decide +kernel

/-- `(10, 20, 0.99, 0.97, 1, 100)`: the cutoff lies above half the sampling frequency. -/
theorem test_design_cutoff :
    let d : DesignParams := ⟨n10, n20, 0x3FEFAE147AE147AE#64, 0x3FEF0A3D70A3D70A#64, NUM.one, n100⟩
    synValidate d = none ∧ synOrder 8 d = some 1 ∧ cutoffFits d 1 = false := by decide +kernel

/-! ### Commands, one step each: V3, V56, V65, V67, V68, programs P2, P4 and P6 -/

theorem test_exec_load_pid_unseeded :
    holdsNext (exec (.filtLoadPid .freq .plus pidP) { state0 with freq := { slotI1 with lastout := n10 } })
      (fun t => t.freq == { slotPid with lastout := n10, coef := loadCoefs slotI1.coef [NUM.zero] [NUM.zero] } &&
        t.out == [.rsp .ok]) = true := by decide +kernel

theorem test_exec_load_i1lp1_bad_length :
    holdsNext (exec (.filtLoadI1LP1 .freq .plus loopP [] [NUM.zero]) state0)
      (fun t => t == { state0 with out := [.rsp .paramError] }) = true := by decide +kernel

theorem test_exec_load_i1lp2 :
    holdsNext (exec (.filtLoadI1LP2 .phase .minus loopP [NUM.one] [NUM.zero]) state0)
      (fun t => t.phase.valid && t.phase.kind == .i1lp2 && t.phase.sign == .minus && !t.freq.valid) = true := by
  decide +kernel

/-- The kind switch is seeded from the last output, into the second integrator (V56). -/
theorem test_exec_load_i2lp1_seeded :
    holdsNext (exec (.filtLoadI2LP1 .freq .plus loopP [NUM.one] [NUM.zero])
        { state0 with freq := { slotI1 with i := n8, lastout := n10, lastoutValid := true } })
      (fun t => t.freq.kind == .i2lp1 && t.freq.i == NUM.zero && t.freq.ii == n10 && !t.freq.lastoutValid) = true := by
  decide +kernel

/-- A second command of the same kind changes the parameter alone (V56). -/
theorem test_exec_load_i2lp2_in_place :
    let F := cfConstruct 8 (CtrlSlot.invalid 8) .i2lp2 .plus (.loop loopP [NUM.one] [NUM.zero])
    holdsNext (exec (.filtLoadI2LP2 .freq .plus { loopP with ki := n2 } [NUM.one] [NUM.zero])
        { state0 with freq := { F with i := n8, eprev := n4 } })
      (fun t => t.freq == { F with i := n8, eprev := n4, ki := n2 }) = true := by decide +kernel

theorem test_exec_load_lp :
    holdsNext (exec (.filtLoadLP [nQuarter, nQuarter] [NUM.half]) state0) (fun t => t.aux == auxP5) = true := by
  decide +kernel

theorem test_exec_design_bounds_first :
    holdsNext (exec (.filtDesignI1LP1 .freq .plus loopBad { design with wp := n20, ws := NUM.one }) state0)
      (fun t => t == { state0 with out := [.rsp .paramError] }) = true := by decide +kernel

theorem test_exec_design_i1lp2 :
    holdsNext (exec (.filtDesignI1LP2 .freq .plus loopP { design with ws := n50 }) state0)
      (fun t => t == { state0 with out := [.rsp .designFreqError] }) = true := by decide +kernel

theorem test_exec_design_i2lp1 :
    holdsNext (exec (.filtDesignI2LP1 .freq .plus loopP { design with dp := nDs, ds := nDp }) state0)
      (fun t => t == { state0 with out := [.rsp .designAttError] }) = true := by decide +kernel

theorem test_exec_reset_freq :
    let F := cfConstruct 8 (CtrlSlot.invalid 8) .i2lp2 .plus (.loop loopP [NUM.one] [NUM.zero])
    holdsNext (exec (.reset .freq n2h)
        { state0 with freq := { F with i := n4, ii := n10, eprev := n2, lastoutValid := true } })
      (fun t => t.freq == { F with h1 := rfReset 8 n2h, h2 := rfReset 8 n2h } && !t.phase.valid) = true := by
  decide +kernel

theorem test_exec_lpApply_refused :
    holdsNext (exec (.lpApply true) state0) (fun t => t == { state0 with out := [.rsp .noFilter] }) = true := by
  decide +kernel

theorem test_exec_engage :
    holdsNext (exec .lockB1 { ready with phacc := n4, cnt := 1 })
      (fun t => t == { locked with out := [.rsp .ok] }) = true := by decide +kernel

theorem test_exec_engage_again :
    holdsNext (exec .lockB1 locked) (fun t => t == { locked with out := [.rsp .ok] }) = true := by decide +kernel

theorem test_exec_disengage_unlocked :
    holdsNext (exec .lockB0 state0) (fun t => t.out == [.actDispatch n2, .evNotLocked, .rsp .ok] &&
      t.ctrl == n2 && t.ctrlValid && t.act == n2 && t.actValid) = true := by decide +kernel

theorem test_exec_mode_phase_refused :
    holdsNext (exec .modeB1 { locked with phase := CtrlSlot.invalid 8, tgt := .frequency })
      (fun t => t.tgt == .frequency && t.out == [.rsp .noFilter]) = true := by decide +kernel

theorem test_exec_mode_frequency_in_phase :
    holdsNext (exec .modeB0 { inPhase with ctrl := n12, phacc := NUM.half })
      (fun t => t.lockState == .freqLocked && t.tgt == .frequency && t.cnt == 0 && t.freq.i == n12 &&
        t.freq.eprev == NUM.zero && !t.freq.lastoutValid && t.phacc == NUM.half) = true := by decide +kernel

theorem test_exec_sp : holdsNext (exec (.sp nNaN) state0)
    (fun t => t == { state0 with sp := nNaN, out := [.rsp .ok] }) = true := by decide +kernel

theorem test_exec_actFreq : holdsNext (exec (.actFreq n4) state0)
    (fun t => t == { state0 with manual := n4, out := [.rsp .ok] }) = true := by decide +kernel

theorem test_exec_actEn : holdsNext (exec (.actEn true) state0)
    (fun t => t == { state0 with actEn := true, out := [.rsp .ok] }) = true := by decide +kernel

theorem test_exec_design_lp :
    holdsNext (exec (.filtDesignLP { design with fs := NUM.zero }) state0)
      (fun t => t == { state0 with out := [.rsp .paramError] }) = true := by decide +kernel

/-- The cutoff lies above half the sampling frequency (V45). -/
theorem test_exec_design_i2lp2 :
    holdsNext (exec (.filtDesignI2LP2 .phase .plus loopP
        ⟨n10, n20, 0x3FEFAE147AE147AE#64, 0x3FEF0A3D70A3D70A#64, NUM.one, n100⟩) state0)
      (fun t => t == { state0 with out := [.rsp .designFreqError] }) = true := by decide +kernel

/-! ### TICK: V60 ticks 1 and 7 -/

/-- Tick 1: CNT 1, CTRL 1.25. -/
theorem test_tick_counts :
    holdsNext (exec (.tick true n10h n10h n10h) locked)
      (fun t => t.cnt == 1 && t.lockState == .freqLocked && t.ctrl == 0x3FF4000000000000#64) = true := by decide +kernel

/-- Tick 7: acquisition, PHACC 0.5, CTRL 8.5. -/
theorem test_tick_acquires :
    holdsNext (exec (.tick true n10h n10h n10h) { locked with cnt := 1, ctrl := 0xC017000000000000#64, phacc := n4 })
      (fun t => t.lockState == .phaseLocked && t.cnt == 2 && t.phacc == NUM.half && t.ctrl == 0x4021000000000000#64 &&
        t.out.head? == some .evPhaseAcq) = true := by decide +kernel

/-! ### States that meet the hypotheses of the obligations -/

theorem witness_DecodeOfEncode :
    (Instr.filtLoadI2LP2 .phase .minus loopP (List.replicate 255 NUM.one) []).wf = true := by decide +kernel

theorem witness_EncodeOfDecode :
    (∃ i, decode (.message ⟨0x30420000#32, [1, 2, 3, 4, 5, 6, 7, 8, 9]⟩) = .ok i) ∧
      ∃ i, decode (.tickRecord (tickRec n2)) = .ok i := ⟨⟨_, rfl⟩, ⟨_, rfl⟩⟩

/-- A header of no row, one of a foreign row, and one of a row that expects one word, with none and with one. -/
theorem witness_DecodingIsTotal :
    (∀ r ∈ opcodeTable, r.matches 0x40000000#32 = false) ∧
    (∃ r ∈ opcodeTable, r.matches 0x21000000#32 = true ∧ expLen r.op 0x21000000#32 = none) ∧
    (∃ r ∈ opcodeTable, r.matches 0x34000000#32 = true ∧ expLen r.op 0x34000000#32 = some 1 ∧
      ([] : List NUM).length ≠ 1 ∧ [n2].length = 1) := by decide

theorem witness_ReservedHeaders : findOpcode (headerWord 4 0 0 0 0 0 0 0 0) = none := by decide

theorem witness_DecodeErrorsAnswer :
    (∃ i, decodeMessage ⟨0x34000000#32, [n2]⟩ = .ok i) ∧ findOpcode 0x40000000#32 = none ∧
    (findOpcode 0x34000000#32 = some .sp ∧ expLen .sp 0x34000000#32 = some 1 ∧ ([] : List NUM).length ≠ 1) :=
  ⟨⟨_, rfl⟩, by decide, by decide⟩

/-- A TICK is presented. -/
abbrev presented : State := { state0 with inbox := [.tick (tickRec n2)] }

theorem witness_StepRunsTick :
    sizesValid presented.sizes = true ∧ cfgValid presented.cfg = true ∧ presented.inbox = .tick (tickRec n2) :: [] ∧
      ∃ i, decode (.tickRecord (tickRec n2)) = .ok i := ⟨by decide, by decide +kernel, rfl, _, rfl⟩

/-- LOCK waits in the queue, and a TICK without a sample is presented. -/
abbrev queued : State := { ready with cq := [⟨0x33010000#32, []⟩], inbox := [.tick idleTick] }

theorem witness_StepRunsCommand :
    sizesValid queued.sizes = true ∧ cfgValid queued.cfg = true ∧ queued.inbox = .tick idleTick :: [] ∧
      idleTick.getLsbD 192 = false ∧ queued.cq = [⟨0x33010000#32, []⟩] ∧
      decode (.message ⟨0x33010000#32, []⟩) = .ok .lockB1 := ⟨by decide, by decide +kernel, rfl, by decide, rfl, rfl⟩

theorem witness_ResetOperationWrites :
    let s : State := { locked with inbox := [.reset cfg0] }
    sizesValid s.sizes = true ∧ cfgValid s.cfg = true ∧ cfgValid cfg0 = true ∧ s.inbox = .reset cfg0 :: [] :=
  ⟨by decide, by decide +kernel, by decide +kernel, rfl⟩

/-- A message longer than R80's bound. -/
abbrev longest : Message := ⟨0x21000000#32, List.replicate 23 NUM.zero⟩

/-- A queue with one place left, a full queue with nothing else presented, and a full queue with a TICK behind. -/
theorem witness_EnqueueAppends :
    let s : State := { state0 with inbox := [.enqueue longest], cq := List.replicate 31 longest }
    let f : State := { state0 with inbox := [.enqueue longest], cq := List.replicate 32 longest }
    let g : State := { f with inbox := [.enqueue longest, .tick idleTick] }
    sizesValid s.sizes = true ∧ cfgValid s.cfg = true ∧
    (s.inbox = .enqueue longest :: [] ∧ s.cq.length < s.sizes.cqDepth) ∧
    (f.inbox = .enqueue longest :: [] ∧ f.sizes.cqDepth ≤ f.cq.length) ∧
    (g.inbox = .enqueue longest :: (.tick idleTick :: []) ∧ g.sizes.cqDepth ≤ g.cq.length) :=
  ⟨by decide, by decide +kernel, by decide +kernel, by decide +kernel, by decide +kernel⟩

/-- With `TAPS_MAX = 2` the 12 words of FILT.DESIGN.I1LP1 are more than R80's 10, and the message enters the queue (R62, R84). -/
theorem test_enqueue_design_taps_2 :
    let m : Message := ⟨0x300C0000#32, List.replicate 12 NUM.one⟩
    m.framed 2 = false ∧
      holdsNext (step { State.resetWith ⟨2, 4⟩ cfg0 [] with inbox := [.enqueue m] }) (fun t => t.cq == [m]) = true := by
  decide +kernel

/-- Two messages that fill the queue exactly. -/
theorem witness_QueueIsFifo :
    let s : State := { state0 with
      inbox := [longest, longest].map Op.enqueue ++ [.tick idleTick], cq := List.replicate 30 longest }
    sizesValid s.sizes = true ∧ cfgValid s.cfg = true ∧ [longest, longest] ≠ [] ∧
      s.cq.length + [longest, longest].length ≤ s.sizes.cqDepth := ⟨by decide, by decide +kernel, by decide, by decide +kernel⟩

theorem witness_LpApplyWrites :
    (true = true ∧ state0.aux.valid = false) ∧
      ¬(true = true ∧ ({ state0 with aux := auxP5 } : State).aux.valid = false) := by decide +kernel

theorem witness_ResetCommandWrites :
    ((ResetSel.all = .freq ∨ ResetSel.all = .all) ∧ locked.freq.valid = true) ∧
      ((ResetSel.phase = .phase ∨ ResetSel.phase = .all) ∧ locked.phase.valid = true) ∧
      ((ResetSel.aux = .aux ∨ ResetSel.aux = .all) ∧ ({ state0 with aux := auxP5 } : State).aux.valid = true) := by
  decide +kernel

theorem witness_EngageWrites :
    locked.lockState ≠ .unlocked ∧
    (state0.lockState = .unlocked ∧ state0.freq.valid = false) ∧
    (let s : State := { ready with phase := CtrlSlot.invalid 8 };
      s.lockState = .unlocked ∧ s.freq.valid = true ∧ s.tgt = .phase ∧ s.phase.valid = false) ∧
    (let s : State := { ready with actEn := false };
      s.lockState = .unlocked ∧ s.freq.valid = true ∧ (s.tgt = .phase → s.phase.valid = true) ∧ s.actEn = false) ∧
    (ready.lockState = .unlocked ∧ ready.freq.valid = true ∧ (ready.tgt = .phase → ready.phase.valid = true) ∧
      ready.actEn = true) := by decide +kernel

theorem witness_ModePhaseWrites :
    (let s : State := { locked with phase := CtrlSlot.invalid 8 };
      s.lockState ≠ .unlocked ∧ s.phase.valid = false) ∧
      ¬(locked.lockState ≠ .unlocked ∧ locked.phase.valid = false) := by decide +kernel

theorem witness_ModeFrequencyWrites :
    locked.lockState ≠ .phaseLocked ∧ (inPhase.lockState = .phaseLocked ∧ inPhase.freq.valid = true) := by
  decide +kernel

/-- Bounds that are equal pass the check. -/
abbrev pidTight : PidParams := { pidP with outLo := n20, intLo := n20, outHi := n20 }

theorem witness_LoadPidBuilds :
    fle pidTight.outLo pidTight.outHi = true ∧ fle pidTight.intLo pidTight.intHi = true ∧
      (state0.freq.valid = false ∨ state0.freq.kind ≠ .pid) ∧ (locked.freq.valid = false ∨ locked.freq.kind ≠ .pid) := by
  decide +kernel

theorem witness_LoadLoopBuilds :
    let ff := List.replicate 8 NUM.one
    1 ≤ ff.length ∧ ff.length ≤ state0.sizes.tapsMax ∧ 1 ≤ [NUM.zero].length ∧
      [NUM.zero].length ≤ state0.sizes.tapsMax ∧ fle loopP.outLo loopP.outHi = true ∧
      fle loopP.intLo loopP.intHi = true ∧ (state0.freq.valid = false ∨ state0.freq.kind ≠ .i1lp1) ∧
      (locked.freq.valid = false ∨ locked.freq.kind ≠ .i2lp2) := by decide +kernel

theorem witness_SameKindMutates :
    (let s : State := { state0 with freq := slotPid };
      s.freq.valid = true ∧ s.freq.kind = .pid ∧ fle pidP.outLo pidP.outHi = true ∧ fle pidP.intLo pidP.intHi = true) ∧
    (locked.freq.valid = true ∧ locked.freq.kind = .i1lp1 ∧ 1 ≤ [NUM.one].length ∧
      [NUM.one].length ≤ locked.sizes.tapsMax ∧ fle loopP.outLo loopP.outHi = true ∧
      fle loopP.intLo loopP.intHi = true) := by decide +kernel

theorem witness_LoadRejected :
    fle pidBad.intLo pidBad.intHi = false ∧ fle loopBad.outLo loopBad.outHi = false ∧
    ¬(1 ≤ ([] : List NUM).length ∧ ([] : List NUM).length ≤ 8 ∧ 1 ≤ [NUM.one].length ∧ [NUM.one].length ≤ 8) ∧
    ¬(1 ≤ (List.replicate 9 NUM.one).length ∧ (List.replicate 9 NUM.one).length ≤ state0.sizes.tapsMax ∧
      1 ≤ [NUM.one].length ∧ [NUM.one].length ≤ state0.sizes.tapsMax) := by decide +kernel

theorem witness_LoadLpWrites :
    1 ≤ (List.replicate 8 NUM.one).length ∧ (List.replicate 8 NUM.one).length ≤ state0.sizes.tapsMax ∧
      1 ≤ [NUM.half].length ∧ [NUM.half].length ≤ state0.sizes.tapsMax := by decide

theorem witness_DesignActsAsLoad :
    synValidate design = none ∧ synOrder state0.sizes.tapsMax design = some 1 ∧ cutoffFits design 1 = true ∧
      fle loopP.outLo loopP.outHi = true ∧ fle loopP.intLo loopP.intHi = true := by decide +kernel

theorem witness_DesignErrors :
    fle loopBad.outLo loopBad.outHi = false ∧ (fle loopP.outLo loopP.outHi = true ∧ fle loopP.intLo loopP.intHi = true) ∧
    synValidate { design with wp := n20 } = some .designFreqError ∧
    (let d : DesignParams := ⟨NUM.one, n1h, nDp, 0x3FB999999999999A#64, NUM.one, n100⟩;
      synValidate d = none ∧ synOrder state0.sizes.tapsMax d = none) ∧
    (let d : DesignParams := ⟨n10, n20, 0x3FEFAE147AE147AE#64, 0x3FEF0A3D70A3D70A#64, NUM.one, n100⟩;
      synValidate d = none ∧ synOrder state0.sizes.tapsMax d = some 1 ∧ cutoffFits d 1 = false) := by decide +kernel

/-- A check that fails, for each of the four, with those before it passed; and the design that passes all. The boundary values are
those of V45: equal frequencies, half the sampling frequency, equal attenuations. -/
theorem witness_SynthesizerValidates :
    ¬(isFinite ({ design with g := nInf } : DesignParams).g = true) ∧
    (0 < numVal n100 ∧ 0 < numVal n20 ∧ ¬ numVal n20 < numVal n20) ∧
    (numVal NUM.one < numVal n50 ∧ ¬ numVal n50 < numVal n100 / 2) ∧
    (numVal n20 < numVal n100 / 2 ∧ ¬ numVal nDp < numVal nDp) ∧
    (0 < numVal nDs ∧ numVal nDs < numVal nDp ∧ numVal nDp < 1) := by decide +kernel

/-- The order 1 of V40 fits any depth; V45's row of order 8 does not fit 8. -/
theorem witness_SynthesizerOrder :
    (synValidate design = none ∧ synOrder 2 design = some 1) ∧
    (let d : DesignParams := ⟨NUM.one, n1h, nDp, 0x3FB999999999999A#64, NUM.one, n100⟩;
      synValidate d = none ∧ synOrder 8 d = none ∧ synOrder 9 d = some 8) := by decide +kernel

/-- The cutoff of V40 is below half the sampling frequency, that of V45's last frequency row is not. -/
theorem witness_SynthesizerCutoff :
    (synValidate design = none ∧ synOrder 8 design = some 1 ∧ cutoffFits design 1 = true) ∧
    (let d : DesignParams := ⟨n10, n20, 0x3FEFAE147AE147AE#64, 0x3FEF0A3D70A3D70A#64, NUM.one, n100⟩;
      synValidate d = none ∧ synOrder 8 d = some 1 ∧ cutoffFits d 1 = false) := by decide +kernel

theorem witness_TickWithoutSample : locked.cq = [] := rfl

theorem witness_TickDrainsInOrder :
    ({ ready with cq := [⟨0x33010000#32, []⟩, longest] } : State).cq = ⟨0x33010000#32, []⟩ :: [longest] ∧
      ∃ t, execMessage ⟨0x33010000#32, []⟩ { ready with cq := [] } = .next t :=
  ⟨rfl, (next_of (p := fun _ => True) (by decide +kernel)).imp fun _ h => h.1⟩

theorem witness_TickResponses :
    ∃ t, exec (.tick true n10h n10h n10h) { ready with cq := [⟨0x33010000#32, []⟩] } = .next t :=
  (next_of (p := fun _ => True) (by decide +kernel)).imp fun _ h => h.1

/-- The slots of the set-up are well-formed. -/
theorem slotI1_wf : slotI1.WellFormed 8 :=
  ⟨⟨by decide, by decide, fun _ => by decide, fun _ => by decide⟩, ⟨by decide, by decide⟩, ⟨by decide, by decide⟩,
    fun _ => by decide +kernel, fun _ => by decide +kernel⟩

theorem freshAux_wf : (AuxSlot.invalid 8).WellFormed 8 :=
  ⟨⟨by decide, by decide, (fun h => nomatch h), (fun h => nomatch h)⟩, ⟨by decide, by decide⟩⟩

theorem locked_sizes : sizesValid locked.sizes = true := by decide

theorem locked_cfg : cfgValid locked.cfg = true := by decide +kernel

theorem seeded_wf : (cfSeed 8 slotI1 n2).WellFormed 8 :=
  ⟨slotI1_wf.coef, ⟨by decide, by decide⟩, ⟨by decide, by decide⟩, slotI1_wf.outBounds, slotI1_wf.intBounds⟩

/-- The invariants hold of the set-up of V60, whatever is presented. -/
theorem locked_inv (ops : List Op) : ({ locked with inbox := ops } : State).Inv where
  sizesOk := locked_sizes
  cfgOk := locked_cfg
  cntBound := Nat.zero_le _
  unlockedCnt := fun h => nomatch h
  frequencyCnt := fun h => nomatch h
  frequencyLock := fun h => nomatch h
  lockedFreq := fun _ => rfl
  lockedPhase := fun _ _ => rfl
  requestedAux := fun h => nomatch h
  effectiveAux := fun h => nomatch h
  freqSlot := seeded_wf
  phaseSlot := slotI1_wf
  auxSlot := freshAux_wf
  queueBound := Nat.zero_le _

theorem witness_TickCompletes : locked.Inv := locked_inv []

theorem witness_TickUnlocked :
    state0.cq = [] ∧ slotsReady state0 = true ∧ state0.lockState = .unlocked ∧ state0.lpReq = false ∧
      state0.lpEff = false := by decide

/-- The toggle in use is on, and off. -/
theorem witness_TickShapes :
    let s : State := { state0 with aux := auxP5, lpReq := true }
    (s.cq = [] ∧ slotsReady s = true ∧ lpInUse s = true) ∧
      (state0.cq = [] ∧ slotsReady state0 = true ∧ lpInUse state0 = false) := by decide +kernel

/-- Not pursuing; in margin with the counter at `L`; out of margin with the counter at 0. -/
theorem witness_TickCounts :
    (state0.cq = [] ∧ slotsReady state0 = true ∧ cfgValid state0.cfg = true ∧
      ¬(state0.lockState ≠ .unlocked ∧ state0.tgt = .phase)) ∧
    (let s : State := { inPhase with cnt := 2 };
      s.cq = [] ∧ slotsReady s = true ∧ (s.lockState ≠ .unlocked ∧ s.tgt = .phase) ∧
        flt (fabs (fsub s.sp n10h)) s.cfg.margin = true ∧ ¬ s.cnt.toNat < s.cfg.counterLimit) ∧
    (locked.cq = [] ∧ slotsReady locked = true ∧ (locked.lockState ≠ .unlocked ∧ locked.tgt = .phase) ∧
      flt (fabs (fsub locked.sp n12)) locked.cfg.margin = false ∧ locked.cnt.toNat = 0) := by decide +kernel

/-- An acquisition and a fall-back. -/
theorem witness_TickTransitions :
    ({ locked with cnt := 1 } : State).cq = [] ∧ slotsReady { locked with cnt := 1 } = true ∧
    (∃ t, exec (.tick true n10h n10h n10h) { locked with cnt := 1 } = .next t ∧ t.cnt.toNat = locked.cfg.counterLimit) ∧
    slotsReady inPhase = true ∧ (∃ t, exec (.tick true n12 n12 n12) inPhase = .next t ∧ t.cnt.toNat = 0) :=
  ⟨rfl, by decide +kernel, next_of (by decide +kernel), by decide +kernel, next_of (by decide +kernel)⟩

theorem witness_TickControls : locked.cq = [] ∧ slotsReady locked = true ∧ locked.lockState ≠ .unlocked := by
  decide +kernel

theorem witness_TickFrame :
    (locked.cq = [] ∧ ∃ t, exec (.tick true n10h n10h n10h) locked = .next t) ∧
      (state0.cq = [] ∧ state0.lockState = .unlocked ∧ ∃ t, exec (.tick true n2 n2 n2) state0 = .next t) :=
  ⟨⟨rfl, (next_of (p := fun _ => True) (by decide +kernel)).imp fun _ h => h.1⟩, rfl, rfl,
    (next_of (p := fun _ => True) (by decide +kernel)).imp fun _ h => h.1⟩

/-- Three ticks in margin are presented to the set-up of V60, whose `L` is 2. -/
abbrev ticking : State :=
  { locked with
    inbox := [(n10h, n10h, n10h), (n10, n10, n10), (n10h, n10h, n10h)].map fun p =>
      Op.tick (BitVec.ofBool true ++ p.1 ++ p.2.1 ++ p.2.2) }

/-- One, two and three ticks are below, at and above `L`. -/
theorem witness_PhaseLockAcquired :
    ticking.Inv ∧ ticking.lockState = .freqLocked ∧ ticking.tgt = .phase ∧ ticking.cnt = 0 ∧ ticking.cq = [] ∧
      ticking.lpReq = false ∧ ticking.lpEff = false ∧
      (∀ p ∈ [(n10h, n10h, n10h), (n10, n10, n10), (n10h, n10h, n10h)],
        flt (fabs (fsub ticking.sp p.2.2)) ticking.cfg.margin = true) ∧
      1 < ticking.cfg.counterLimit ∧ 2 = ticking.cfg.counterLimit ∧ ticking.cfg.counterLimit < 3 ∧ 3 ≤ 3 :=
  ⟨locked_inv _, rfl, rfl, rfl, rfl, rfl, rfl, by
    simp only [List.forall_mem_cons, List.not_mem_nil, false_implies, implies_true, and_true]
    exact ⟨by decide +kernel, by decide +kernel, by decide +kernel⟩, by decide, rfl, by decide, le_refl _⟩

/-- One change of the lock state of each of the five kinds. -/
theorem witness_LockStateTransitions :
    (∃ t, exec .lockB1 ready = .next t ∧ t.lockState ≠ ready.lockState) ∧
    (∃ t, exec .lockB0 locked = .next t ∧ t.lockState ≠ locked.lockState) ∧
    (∃ t, exec .modeB0 inPhase = .next t ∧ t.lockState ≠ inPhase.lockState) ∧
    (∃ t, exec (.tick true n10h n10h n10h) { locked with cnt := 1 } = .next t ∧ t.lockState ≠ locked.lockState) ∧
    (∃ t, exec (.tick true n12 n12 n12) inPhase = .next t ∧ t.lockState ≠ inPhase.lockState) :=
  ⟨next_of (by decide +kernel), next_of (by decide +kernel), next_of (by decide +kernel), next_of (by decide +kernel),
    next_of (by decide +kernel)⟩

theorem witness_ConfigurationImmutable : ∃ t, exec (.tick true n10h n10h n10h) locked = .next t ∧ t.seq = 1 :=
  next_of (by decide +kernel)

theorem witness_ValidNeverCleared :
    locked.freq.valid = true ∧ locked.phase.valid = true ∧ ({ locked with aux := auxP5 } : State).aux.valid = true ∧
      ∃ t, exec (.reset .all n2h) { locked with aux := auxP5 } = .next t ∧ t.aux.valid = true :=
  ⟨rfl, rfl, rfl, next_of (by decide +kernel)⟩

/-- A command that is rejected, and one that is accepted after two pulses. -/
theorem witness_RejectionIsPrecise :
    (isCommand (.lpApply true) = true ∧ ∃ t, exec (.lpApply true) state0 = .next t ∧ t.out = [.rsp .noFilter]) ∧
      (isCommand .lockB0 = true ∧ ∃ t, exec .lockB0 state0 = .next t ∧ t.out.length = 3) :=
  ⟨⟨rfl, next_of (by decide +kernel)⟩, rfl, next_of (by decide +kernel)⟩

theorem witness_CommandsLeaveSampleState :
    isCommand .lockB1 = true ∧ ∃ t, exec .lockB1 ready = .next t ∧ t.lockState = .freqLocked :=
  ⟨rfl, next_of (by decide +kernel)⟩

theorem witness_DuplicateLeavesState :
    isCommand (.filtLoadI2LP1 .freq .plus loopP [NUM.one] [NUM.zero]) = true ∧
      ∃ t, exec (.filtLoadI2LP1 .freq .plus loopP [NUM.one] [NUM.zero]) locked = .next t ∧ t.freq.kind = .i2lp1 :=
  ⟨rfl, next_of (by decide +kernel)⟩

theorem witness_StepKeepsInvariants : ticking.Inv ∧ ∃ t, step ticking = .next t ∧ t.cnt = 1 :=
  ⟨locked_inv _, next_of (by decide +kernel)⟩

/-- A RESET with a valid record and a message longer than R80's bound are presented. -/
theorem witness_StepGoesOn :
    let s : State := { locked with inbox := [.reset cfg0, .enqueue longest] }
    s.Inv ∧ (∀ c, Op.reset c ∈ s.inbox → cfgValid c = true) := by
  refine ⟨locked_inv _, fun c h => ?_⟩
  simp only [List.mem_cons, List.not_mem_nil, or_false, Op.reset.injEq, reduceCtorEq] at h
  subst h
  decide +kernel

theorem witness_ClampBounds :
    flt n2 n4 = true ∧ (flt n8 n2 = false ∧ flt n4 n8 = true) ∧ (flt n4 n4 = false ∧ flt n4 n4 = false) ∧
    isNaN nNaN = true ∧ fle n4 n4 = true ∧ isNaN n2 = false ∧ (nInf = 0x7FF0000000000000#64) ∧
      isNaN 0xFFF0000000000000#64 = false := by decide +kernel

/-- A quotient, a sum that is zero, and the largest finite NUM. -/
theorem witness_RoundedOnce :
    (isFinite NUM.one = true ∧ isFinite 0xBFF0000000000000#64 = true ∧ numVal 0xBFF0000000000000#64 ≠ 0 ∧
      numVal NUM.one + numVal 0xBFF0000000000000#64 = 0) ∧ isFinite 0x7FEFFFFFFFFFFFFF#64 = true := by decide +kernel

/-- The two zeros are finite, and a NaN is one. -/
theorem witness_ComparesByValue :
    isFinite NUM.zero = true ∧ isFinite 0x8000000000000000#64 = true ∧ isNaN nNaN = true := by decide +kernel

/-- As many coefficients as the depth allows. -/
theorem witness_FilterUpdateSums :
    (Coefs.mk 8 1 (List.replicate 8 NUM.half) (List.replicate 8 NUM.half)).WellFormed 8 true ∧
      (rfReset 8 n2).WellFormed 8 :=
  ⟨⟨by decide, by decide, fun _ => by decide, fun _ => by decide⟩, ⟨by decide, by decide⟩⟩

theorem witness_PidUpdateSteps : slotPid.kind = .pid := rfl

theorem witness_LoopUpdateSteps : slotI1.kind ≠ .pid := by decide

/-- Equal bounds are in order. -/
theorem witness_UpdateWithinBounds :
    let F : CtrlSlot := { slotI1 with kind := .i2lp1, outLo := n100, intLo := n50 }
    fle F.outLo F.outHi = true ∧ fle F.intLo F.intHi = true ∧ (F.kind = .i2lp1 ∨ F.kind = .i2lp2) := by decide +kernel

/-- A double-integrator kind, and a single one, seeded at the upper bound of the accumulators. -/
theorem witness_SoftStart :
    ∀ k ∈ [CtrlKind.i2lp1, CtrlKind.i1lp2],
      let F : CtrlSlot := { slotI1 with kind := k, kii := n2 }
      F.coef.WellFormed 8 true ∧ F.kind ≠ .pid ∧ isFinite n10 = true ∧ isFinite F.ki = true ∧
        (F.coef.ff.take F.coef.nff).all isFinite = true ∧ (F.coef.fb.take F.coef.nfb).all isFinite = true ∧
        isFinite (fmul (fmul NUM.half F.ki) NUM.one) = true ∧ fle F.intLo n50 = true ∧ fle n50 F.intHi = true ∧
        fle F.outLo n50 = true ∧ fle n50 F.outHi = true ∧ fle F.intLo NUM.zero = true ∧
        fle NUM.zero F.intHi = true ∧ isFinite (fmul F.kii NUM.one) = true := by
  intro k hk
  simp only [List.mem_cons, List.not_mem_nil, or_false] at hk
  rcases hk with rfl | rfl <;> exact ⟨slotI1_wf.coef, by decide +kernel⟩

theorem witness_NaNPropagates :
    isNaN nNaN = true ∧ isNaN ({ slotI1 with i := nNaN } : CtrlSlot).i = true := by decide +kernel

end Sys2Proof.Tests
end

