-- ==== Sys2Proof/Proofs/Scope.lean ====
section
/-!
PROOFS. The order of the NUMs at its two ends, and what a clamp keeps (spec/00_scope.md R11, R12).
-/

namespace Sys2Proof.Proofs

open Sys2Proof Sys2Proof.Machine

/-! ### The order of the NUMs -/

/-- Two numbers compare one way or the other; a NaN is what the premises shut out (R11). -/
theorem fle_of_flt_false {a b : NUM} (ha : isNaN a = false) (hb : isNaN b = false) (h : flt a b = false) :
    fle b a = true := by
  rw [← Bool.not_eq_true, flt_eq] at h
  exact (fle_eq b a).2 ⟨hb, ha, not_lt.1 fun hlt => h ⟨ha, hb, hlt⟩⟩

theorem fle_refl {a : NUM} (ha : isNaN a = false) : fle a a = true :=
  (fle_eq a a).2 ⟨ha, ha, le_refl _⟩

theorem flt_false_of_fle {a b : NUM} (h : fle a b = true) : flt b a = false := by
  rw [← Bool.not_eq_true, flt_eq]
  rintro ⟨-, -, hlt⟩
  exact absurd ((fle_eq a b).1 h).2.2 (not_le.2 hlt)

/-- The key of a number lies between the keys of the infinities. -/
theorem numKey_bounds {x : NUM} (h : isNaN x = false) : -(infField : Int) ≤ numKey x ∧ numKey x ≤ infField := by
  have hmag : magField x ≤ infField := inf_bound h
  unfold numKey
  split <;> omega

/-- `+Inf` is the greatest number. -/
theorem fle_posInf {x : NUM} (h : isNaN x = false) : fle x 0x7FF0000000000000#64 = true := by
  have hkey : numKey 0x7FF0000000000000#64 = infField := by decide
  exact (fle_eq _ _).2 ⟨h, by decide, hkey ▸ (numKey_bounds h).2⟩

/-- `−Inf` is the least number. -/
theorem negInf_fle {x : NUM} (h : isNaN x = false) : fle 0xFFF0000000000000#64 x = true := by
  have hkey : numKey 0xFFF0000000000000#64 = -(infField : Int) := by decide
  exact (fle_eq _ _).2 ⟨by decide, h, hkey ▸ (numKey_bounds h).1⟩

/-- Keys tell NUMs apart everywhere but at the two zeros, which share one. -/
theorem eq_of_numKey_eq {x y : NUM} (h : numKey x = numKey y) (h0 : numKey y ≠ 0) : x = y := by
  unfold numKey at h h0
  cases hx : signBit x <;> cases hy : signBit y <;> simp only [hx, hy, Bool.false_eq_true, if_true, if_false] at h h0
  case false.false | true.true => exact num_ext (hx.trans hy.symm) (by omega)
  case false.true | true.false => omega

/-- Nothing but `+Inf` itself reaches `+Inf` from above. -/
theorem eq_posInf_of_fle {x : NUM} (h : fle 0x7FF0000000000000#64 x = true) : x = 0x7FF0000000000000#64 := by
  obtain ⟨-, hx, hle⟩ := (fle_eq _ _).1 h
  obtain ⟨-, -, hge⟩ := (fle_eq _ _).1 (fle_posInf hx)
  exact eq_of_numKey_eq (le_antisymm hge hle) (by decide)

/-- Nothing but `−Inf` itself reaches `−Inf` from below. -/
theorem eq_negInf_of_fle {x : NUM} (h : fle x 0xFFF0000000000000#64 = true) : x = 0xFFF0000000000000#64 := by
  obtain ⟨hx, -, hle⟩ := (fle_eq _ _).1 h
  obtain ⟨-, -, hge⟩ := (fle_eq _ _).1 (negInf_fle hx)
  exact eq_of_numKey_eq (le_antisymm hle hge) (by decide)

/-! ### Clamping -/

theorem clamp_of_flt_lo {x lo : NUM} (hi : NUM) (h : flt x lo = true) : clamp x lo hi = lo := by
  simp [clamp, h]

theorem clamp_of_hi_flt {x lo hi : NUM} (hlo : flt x lo = false) (hhi : flt hi x = true) : clamp x lo hi = hi := by
  simp [clamp, hlo, hhi]

theorem clamp_of_between {x lo hi : NUM} (hlo : flt x lo = false) (hhi : flt hi x = false) : clamp x lo hi = x := by
  simp [clamp, hlo, hhi]

/-- With bounds in order a number is clamped into them (R12). -/
theorem clamp_within {x lo hi : NUM} (hb : fle lo hi = true) (hx : isNaN x = false) :
    fle lo (clamp x lo hi) = true ∧ fle (clamp x lo hi) hi = true := by
  obtain ⟨hlo, hhi, -⟩ := (fle_eq lo hi).1 hb
  obtain ⟨-, hc⟩ | ⟨-, -, hc⟩ | ⟨hge, hle, hc⟩ := clamp_cases x lo hi <;> rw [hc]
  · exact ⟨fle_refl hlo, hb⟩
  · exact ⟨hb, fle_refl hhi⟩
  · exact ⟨fle_of_flt_false hx hlo hge, fle_of_flt_false hhi hx hle⟩

/-- `+Inf` is not below the lower bound, and where it is not above the upper bound it is that bound (R12). -/
theorem clamp_posInf {lo hi : NUM} (hb : fle lo hi = true) : clamp 0x7FF0000000000000#64 lo hi = hi := by
  obtain ⟨hlo, hhi, -⟩ := (fle_eq lo hi).1 hb
  have hge : flt 0x7FF0000000000000#64 lo = false := flt_false_of_fle (fle_posInf hlo)
  cases hle : flt hi 0x7FF0000000000000#64 with
  | true => exact clamp_of_hi_flt hge hle
  | false => rw [clamp_of_between hge hle, eq_posInf_of_fle (fle_of_flt_false hhi (by decide) hle)]

/-- `−Inf` is below the lower bound or is that bound, and it is never above the upper one (R12). -/
theorem clamp_negInf {lo hi : NUM} (hb : fle lo hi = true) : clamp 0xFFF0000000000000#64 lo hi = lo := by
  obtain ⟨hlo, hhi, -⟩ := (fle_eq lo hi).1 hb
  have hle : flt hi 0xFFF0000000000000#64 = false := flt_false_of_fle (negInf_fle hhi)
  cases hge : flt 0xFFF0000000000000#64 lo with
  | true => exact clamp_of_flt_lo hi hge
  | false => rw [clamp_of_between hge hle, eq_negInf_of_fle (fle_of_flt_false (by decide) hlo hge)]

/-- Settles O52: the three cases of the definition, the bounds from them, and each infinity by its place at an end of
the order. -/
theorem clampBounds : Obligations.ClampBounds := by
  intro x lo hi
  exact ⟨clamp_of_flt_lo hi, clamp_of_hi_flt, clamp_of_between, clamp_nan, clamp_within,
    fun hb hx => hx ▸ clamp_posInf hb, fun hb hx => hx ▸ clamp_negInf hb⟩

end Sys2Proof.Proofs
end

/-!
PROOFS. Decoding is total: a payload of the expected length is taken apart, so the three checks of the decoding procedure
are its only ways to end (spec/30_encoding.md R86, R88).
-/

namespace Sys2Proof.Proofs

open Sys2Proof Sys2Proof.Machine

/-! ### Payloads of the expected length (R84, R85) -/

theorem payloadNone_of_length {pay : List NUM} (h : pay.length = 0) : payloadNone pay = some () := by
  rw [List.length_eq_zero_iff.1 h]
  rfl

theorem payloadOne_of_length {pay : List NUM} (h : pay.length = 1) : ∃ v, payloadOne pay = some v := by
  obtain ⟨v, rfl⟩ := List.length_eq_one_iff.1 h
  exact ⟨v, rfl⟩

theorem payloadPid_of_length {pay : List NUM} (h : pay.length = 9) : ∃ p, payloadPid pay = some p :=
  match pay, h with
  | [_, _, _, _, _, _, _, _, _], _ => ⟨_, rfl⟩

theorem payloadDesign_of_length {pay : List NUM} (h : pay.length = 6) : ∃ d, payloadDesign pay = some d :=
  match pay, h with
  | [_, _, _, _, _, _], _ => ⟨_, rfl⟩

/-- Six words are enough for the scalars of a Loop form; what is left is the rest. -/
theorem payloadLoop_of_length {pay : List NUM} {n : Nat} (h : pay.length = n + 6) :
    ∃ q, payloadLoop pay = some q ∧ q.2.length = n :=
  match pay, h with
  | _ :: _ :: _ :: _ :: _ :: _ :: _, h => ⟨_, rfl, Nat.add_right_cancel (m := 6) h⟩

/-- The two records of a DESIGN form of a Loop kind, whatever instruction is built from them. -/
theorem payloadLoopDesign_of_length {pay : List NUM} (h : pay.length = 12) :
    ∃ p d, ∀ f : LoopParams → DesignParams → Instr,
      ((payloadLoop pay).bind fun q => (payloadDesign q.2).map (f q.1)) = some (f p d) := by
  obtain ⟨⟨p, rest⟩, hloop, hrest⟩ := payloadLoop_of_length (n := 6) h
  obtain ⟨d, hd⟩ := payloadDesign_of_length hrest
  exact ⟨p, d, fun f => by rw [hloop, Option.bind_some, hd, Option.map_some]⟩

/-! ### The steps of the decoding procedure (R88) -/

/-- Step (1) finds no row exactly when the header matches none. -/
theorem findOpcode_eq_none_iff {h : Header} :
    findOpcode h = none ↔ ∀ r ∈ opcodeTable, r.matches h = false := by
  simp [findOpcode]

/-- A foreign row has no expected length; another row has its own. -/
theorem lengthOk_iff {op : Opcode} {m : Message} :
    lengthOk op m = true ↔ ∀ n, expLen op m.hdr = some n → m.pay.length = n := by
  unfold lengthOk
  cases expLen op m.hdr <;> simp

/-- Step (4) never fails once the length is right, and what it builds belongs to the row. -/
theorem assemble_of_length {op : Opcode} {h : Header} {pay : List NUM}
    (hlen : ∀ n, expLen op h = some n → pay.length = n) :
    ∃ i, assemble op h pay = some i ∧ opcodeOf i = some op := by
  cases op with
  | acqRate | acqChannels | acqConnect | acqDisconnect | acqDevices => exact ⟨_, rfl, rfl⟩
  | actAmp | actPhase | actConnect | actDisconnect | actDevices => exact ⟨_, rfl, rfl⟩
  | filtLoadLP => exact ⟨_, rfl, rfl⟩
  | actEn | lpApply | lockB0 | lockB1 | modeB0 | modeB1 =>
    exact ⟨_, congrArg (Option.map _) (payloadNone_of_length (hlen _ rfl)), rfl⟩
  | actFreq | reset | sp =>
    obtain ⟨v, hv⟩ := payloadOne_of_length (hlen _ rfl)
    exact ⟨_, congrArg (Option.map _) hv, rfl⟩
  | filtLoadPid =>
    obtain ⟨p, hp⟩ := payloadPid_of_length (hlen _ rfl)
    exact ⟨_, congrArg (Option.map _) hp, rfl⟩
  | filtLoadI1LP1 | filtLoadI1LP2 | filtLoadI2LP1 | filtLoadI2LP2 =>
    obtain ⟨q, hq, -⟩ := payloadLoop_of_length ((hlen _ rfl).trans (by rw [Nat.add_assoc, Nat.add_comm]))
    exact ⟨_, congrArg (Option.map _) hq, rfl⟩
  | filtDesignI1LP1 | filtDesignI1LP2 | filtDesignI2LP1 | filtDesignI2LP2 =>
    obtain ⟨p, d, hpd⟩ := payloadLoopDesign_of_length (hlen _ rfl)
    exact ⟨_, hpd _, rfl⟩
  | filtDesignLP =>
    obtain ⟨d, hd⟩ := payloadDesign_of_length (hlen _ rfl)
    exact ⟨_, congrArg (Option.map _) hd, rfl⟩

/-! ### The outcomes of the decoding procedure (R88) -/

theorem decode_badCommand {h : Header} {pay : List NUM} (hrow : findOpcode h = none) :
    decodeMessage ⟨h, pay⟩ = .error .badCommand := by
  simp [decodeMessage, hrow]

theorem decode_formatError {h : Header} {pay : List NUM} {op : Opcode} {n : Nat} (hrow : findOpcode h = some op)
    (hexp : expLen op h = some n) (hne : pay.length ≠ n) : decodeMessage ⟨h, pay⟩ = .error .formatError := by
  have hlen : ¬ lengthOk op ⟨h, pay⟩ = true := fun hok => hne (lengthOk_iff.1 hok n hexp)
  simp [decodeMessage, hrow, hlen]

/-- A header of a row and a payload that the row accepts decode to an instruction of the row. -/
theorem decode_row {h : Header} {pay : List NUM} {op : Opcode} (hrow : findOpcode h = some op)
    (hlen : ∀ n, expLen op h = some n → pay.length = n) :
    ∃ i, decodeMessage ⟨h, pay⟩ = .ok i ∧ opcodeOf i = some op := by
  obtain ⟨i, hi, hop⟩ := assemble_of_length hlen
  exact ⟨i, decode_ok hrow (lengthOk_iff.2 hlen) hi, hop⟩

/-- Settles O3: the row that a header matches is the one found, and from there each clause is one outcome of the
decoding procedure; that no clause is left over rests on `assemble_of_length`. -/
theorem decodingIsTotal : Obligations.DecodingIsTotal := by
  intro h pay
  refine ⟨fun r hr q hq => matches_unique hr hq, fun hnone => decode_badCommand (findOpcode_eq_none_iff.2 hnone),
    fun r hr hmatch => ?_⟩
  have hrow : findOpcode h = some r.op := findOpcode_of_matches hr hmatch
  refine ⟨fun hforeign => decode_row hrow fun n hn => ?_, fun n => decode_formatError hrow,
    fun n hn hlen => decode_row hrow fun k hk => ?_⟩
  · simp [hforeign] at hn
  · rw [hlen, ← Option.some.injEq, ← hn, hk]

end Sys2Proof.Proofs

/-!
PROOFS. RF.UPDATE, index by index (spec/40_recursive_filter.md R101).
-/

namespace Sys2Proof.Proofs

open Sys2Proof Sys2Proof.Machine

/-- A register that has a depth takes the new sample at index 0 (R101 steps 1 and 5). -/
theorem shiftIn_getD_zero {taps : Nat} (htaps : 1 ≤ taps) (v : NUM) (xs : List NUM) :
    (shiftIn taps v xs).getD 0 NUM.zero = v := by
  obtain ⟨n, rfl⟩ := Nat.exists_eq_add_of_le' htaps
  rfl

/-- As far as both arrays reach, `tapSum` runs over their indices, ascending from `+0.0` (R101 steps 2 and 3). -/
theorem tapSum_eq_foldl_range {n : Nat} {cs xs : List NUM} (hcs : n ≤ cs.length) (hxs : n ≤ xs.length) :
    tapSum n cs xs =
      (List.range n).foldl (fun acc k => fadd acc (fmul (cs.getD k NUM.zero) (xs.getD k NUM.zero))) NUM.zero :=
  foldl_zip_take (fun acc a b => fadd acc (fmul a b)) NUM.zero n cs xs hcs hxs

/-- An update shifts its input and its result into the two registers (R101 steps 1 and 5). -/
theorem rfUpdate_history (taps : Nat) (c : Coefs) (h : History) (x : NUM) :
    (rfUpdate taps c h x).1 = ⟨shiftIn taps x h.x, shiftIn taps (rfUpdate taps c h x).2 h.y⟩ := rfl

/-- The result of an update: the inputs are summed after the shift, the outputs before theirs (R101 step 4). -/
theorem rfUpdate_result (taps : Nat) (c : Coefs) (h : History) (x : NUM) :
    (rfUpdate taps c h x).2 = fadd (tapSum c.nff c.ff (rfUpdate taps c h x).1.x) (tapSum c.nfb c.fb h.y) := rfl

/-- Settles O55: the registers are as the laws of the shift say, and both sums reach no further than their arrays, so that
they are sums over indices. -/
theorem filterUpdateSums : Obligations.FilterUpdateSums := by
  intro taps c h x htaps hc hh r sum
  obtain ⟨hxlen, hylen⟩ : r.1.WellFormed taps := rfUpdate_wf hh
  have hregs : r.1 = ⟨shiftIn taps x h.x, shiftIn taps r.2 h.y⟩ := rfUpdate_history taps c h x
  obtain ⟨-, hnff⟩ := hc.nffRange rfl
  obtain ⟨-, hnfb⟩ := hc.nfbRange rfl
  have hff : tapSum c.nff c.ff r.1.x = sum c.ff r.1.x c.nff :=
    tapSum_eq_foldl_range (hnff.trans_eq hc.ffDepth.symm) (hnff.trans_eq hxlen.symm)
  have hfb : tapSum c.nfb c.fb h.y = sum c.fb h.y c.nfb :=
    tapSum_eq_foldl_range (hnfb.trans_eq hc.fbDepth.symm) (hnfb.trans_eq hh.yDepth.symm)
  refine ⟨hxlen, hylen, ?newest_input, ?newest_output, fun k hk hlt => ?moved_up, ?result⟩
  case newest_input => rw [hregs, shiftIn_getD_zero htaps]
  case newest_output => rw [hregs, shiftIn_getD_zero htaps]
  case moved_up =>
    rw [hregs]
    exact ⟨shiftIn_getD k hk hlt, shiftIn_getD k hk hlt⟩
  case result =>
    calc r.2 = fadd (tapSum c.nff c.ff r.1.x) (tapSum c.nfb c.fb h.y) := rfUpdate_result taps c h x
      _ = fadd (sum c.ff r.1.x c.nff) (sum c.fb h.y c.nfb) := by rw [hff, hfb]

end Sys2Proof.Proofs

/-!
PROOFS. The updates of the five control filters, operation by operation (spec/41_control_filters.md R120 to R129).
-/

namespace Sys2Proof.Proofs

open Sys2Proof Sys2Proof.Machine

/-! ### The dispatch on the kind (R125 to R129) -/

/-- `NLP(kind) = 2`: the kind runs two lowpass stages in series (R27); tied to the model by `cfUpdate_of_loop`. -/
def twoLowpasses : CtrlKind → Bool
  | .pid | .i1lp1 | .i2lp1 => false
  | .i1lp2 | .i2lp2 => true

theorem twoIntegrators_iff (k : CtrlKind) : twoIntegrators k = true ↔ k = .i2lp1 ∨ k = .i2lp2 := by
  cases k <;> decide

theorem twoLowpasses_iff (k : CtrlKind) : twoLowpasses k = true ↔ k = .i1lp2 ∨ k = .i2lp2 := by
  cases k <;> decide

theorem cfUpdate_of_pid {F : CtrlSlot} (hkind : F.kind = .pid) (taps : Nat) (dt sp pv : NUM) :
    cfUpdate taps dt F sp pv = pidUpdate dt F sp pv := by
  rw [cfUpdate, hkind]

/-- The four Loop kinds run one skeleton, and differ in the numbers of integrators and of stages alone (R124). -/
theorem cfUpdate_of_loop {F : CtrlSlot} (hkind : F.kind ≠ .pid) (taps : Nat) (dt sp pv : NUM) :
    cfUpdate taps dt F sp pv =
      loopUpdate (twoIntegrators F.kind) (twoLowpasses F.kind) taps dt F sp pv := by
  unfold cfUpdate
  cases hk : F.kind with
  | pid => exact absurd hk hkind
  | i1lp1 | i1lp2 | i2lp1 | i2lp2 => rfl

/-! ### The parts of a Loop update (R123, R124) -/

/-- The guard of R123, read from its other side: a zero `F.KI` of either sign adds `+0.0`. -/
theorem int2Inc_eq (dt : NUM) (F : CtrlSlot) :
    int2Inc dt F = if feq F.ki NUM.zero = true then NUM.zero else fmul (fmul F.kii dt) (fdiv F.i F.ki) := by
  cases hzero : feq F.ki NUM.zero with
  | true => simp [int2Inc, fne, hzero]
  | false => simp [int2Inc, fne, hzero]

/-- `INT2STEP` reads the accumulator that `INTSTEP` left, and only it writes `F.II` (R123, R124). -/
theorem loopIntegrate_eq (two : Bool) (dt : NUM) (F : CtrlSlot) (e : NUM) :
    loopIntegrate two dt F e =
      { intStep dt F e with
        ii := if two then clamp (fadd F.ii (int2Inc dt (intStep dt F e))) F.intLo F.intHi else F.ii } := by
  cases two with
  | true => rfl
  | false => rfl

/-- The second stage takes the result of the first, and only it writes the second history (R124). -/
theorem loopLowpass_eq (two : Bool) (taps : Nat) (F : CtrlSlot) (e : NUM) :
    loopLowpass two taps F e =
      ({ F with
          h1 := (rfUpdate taps F.coef F.h1 e).1
          h2 := if two then (rfUpdate taps F.coef F.h2 (rfUpdate taps F.coef F.h1 e).2).1 else F.h2 },
        if two then (rfUpdate taps F.coef F.h2 (rfUpdate taps F.coef F.h1 e).2).2
        else (rfUpdate taps F.coef F.h1 e).2) := by
  cases two with
  | true => simp [loopLowpass]
  | false => simp [loopLowpass]

/-! ### The two obligations -/

/-- Settles O56: a PID slot is dispatched to `PID.UPDATE`, which is the written sequence itself: the blended derivative
is taken from the `F.EPREV` and `F.DPREV` of before the update, the clamp of the sum from the `F.I` of after
`INTSTEP`. -/
theorem pidUpdateSteps : Obligations.PidUpdateSteps := by
  intro taps dt F sp pv hkind e i draw d out
  have herr : ctrlError F sp pv = e := rfl
  have hint : intStep dt F e = { F with i := i } := rfl
  have hderiv : pidDeriv dt F e = d := rfl
  rw [cfUpdate_of_pid hkind, pidUpdate]
  simp only [herr, hint, hderiv]
  rfl

/-- Settles O57: the kind fixes the numbers of integrators and of stages, and the skeleton's three parts (integrators,
their sum, lowpass) are put together on the error of this update. -/
theorem loopUpdateSteps : Obligations.LoopUpdateSteps := by
  intro taps dt F sp pv hkind e double twoStages i inc ii r1 r2 y out
  have herr : ctrlError F sp pv = e := rfl
  have hdouble : twoIntegrators F.kind = true ↔ double := twoIntegrators_iff F.kind
  have hstages : twoLowpasses F.kind = true ↔ twoStages := twoLowpasses_iff F.kind
  have hinc : int2Inc dt (intStep dt F e) = inc := int2Inc_eq dt _
  have hint : loopIntegrate (twoIntegrators F.kind) dt F e = { F with i := i, ii := ii } := by
    rw [loopIntegrate_eq, hinc, if_congr hdouble rfl rfl]
    rfl
  have hacc : loopAcc (twoIntegrators F.kind) { F with i := i, ii := ii } = if double then fadd i ii else i :=
    if_congr hdouble rfl rfl
  have hlp : loopLowpass (twoLowpasses F.kind) taps { F with i := i, ii := ii } e =
      ({ F with i := i, ii := ii, h1 := r1.1, h2 := if twoStages then r2.1 else F.h2 }, y) := by
    rw [loopLowpass_eq, if_congr hstages rfl rfl, if_congr hstages rfl rfl]
  rw [cfUpdate_of_loop hkind, loopUpdate]
  simp only [herr, hint, hacc, hlp]
  rfl

end Sys2Proof.Proofs

/-!
PROOFS. The synthesizer's decisions on whole numbers are those of its formulas over the reals (spec/42_synthesizer.md R151 to R154,
log 8).
-/

namespace Sys2Proof.Proofs

open Sys2Proof Sys2Proof.Machine

/-! ### The real value of a NUM and the order of the NUMs (R11, R94) -/

/-- The absolute value that bits 62:0 stand for, in units of 2^-1074; tied to the model by `numMag_eq`. -/
def unitsOf (m : Nat) : Nat :=
  if m / 2 ^ 52 = 0 then m % 2 ^ 52 else (2 ^ 52 + m % 2 ^ 52) * 2 ^ (m / 2 ^ 52 - 1)

theorem numMag_eq (x : NUM) : numMag x = unitsOf (magField x) := by
  obtain ⟨-, -, hfrac, hmag⟩ := num_bits x
  have hdiv : magField x / 2 ^ 52 = expField x := by omega
  have hmod : magField x % 2 ^ 52 = fracField x := by omega
  rw [unitsOf, hdiv, hmod, numMag]

/-- Bits 62:0 rise with the absolute value: within one exponent by one unit in the last place, and where the fraction is
full the carry leads to the least value of the next exponent (R94). -/
theorem unitsOf_strictMono : StrictMono unitsOf := by
  refine strictMono_nat_of_lt_succ fun m => ?_
  by_cases hfull : m % 2 ^ 52 + 1 < 2 ^ 52
  case pos =>
    have hdiv : (m + 1) / 2 ^ 52 = m / 2 ^ 52 := by omega
    have hmod : (m + 1) % 2 ^ 52 = m % 2 ^ 52 + 1 := by omega
    rw [unitsOf, unitsOf, hdiv, hmod]
    split
    · omega
    · exact Nat.mul_lt_mul_of_pos_right (by omega) (by positivity)
  case neg =>
    have hdiv : (m + 1) / 2 ^ 52 = m / 2 ^ 52 + 1 := by omega
    have hmod : (m + 1) % 2 ^ 52 = 0 := by omega
    rw [unitsOf, unitsOf, hdiv, hmod, if_neg (Nat.succ_ne_zero _), Nat.add_sub_cancel]
    split
    case isTrue hsub => rw [hsub]; omega
    case isFalse hnormal =>
      calc (2 ^ 52 + m % 2 ^ 52) * 2 ^ (m / 2 ^ 52 - 1)
          < 2 ^ 53 * 2 ^ (m / 2 ^ 52 - 1) := Nat.mul_lt_mul_of_pos_right (by omega) (by positivity)
        _ = (2 ^ 52 + 0) * 2 ^ (m / 2 ^ 52) := by
            obtain ⟨k, hk⟩ := Nat.exists_eq_succ_of_ne_zero hnormal
            rw [hk, Nat.succ_sub_one, pow_succ 2 k]; ring

/-- The keys compare as the values do, whatever the signs. -/
theorem numKey_lt_iff (a b : NUM) : numKey a < numKey b ↔ numFix a < numFix b := by
  have hab := unitsOf_strictMono.lt_iff_lt (a := magField a) (b := magField b)
  have hba := unitsOf_strictMono.lt_iff_lt (a := magField b) (b := magField a)
  have ha := unitsOf_strictMono.lt_iff_lt (a := 0) (b := magField a)
  have hb := unitsOf_strictMono.lt_iff_lt (a := 0) (b := magField b)
  have hzero : unitsOf 0 = 0 := by decide
  rw [← numMag_eq, hzero] at ha hb
  rw [← numMag_eq, ← numMag_eq] at hab hba
  unfold numKey numFix
  split <;> split <;> omega

theorem isNaN_of_isFinite {x : NUM} (h : isFinite x = true) : isNaN x = false := by
  have hexp : expField x ≠ 2047 := by simpa [isFinite] using h
  simp [isNaN, hexp]

theorem numVal_eq (x : NUM) : numVal x = (numFix x : ℚ) / oneMag := by
  have hpow (k : Nat) : ((2 ^ k : Nat) : ℚ) = 2 ^ k := by push_cast; rfl
  exact congrArg ((numFix x : ℚ) / ·) (hpow 1074).symm

theorem oneMag_pos : 0 < oneMag := by decide +kernel

theorem numVal_lt_iff (a b : NUM) : numVal a < numVal b ↔ numFix a < numFix b := by
  rw [numVal_eq, numVal_eq, div_lt_div_iff_of_pos_right (Nat.cast_pos.2 oneMag_pos), Int.cast_lt]

/-- On finite operands `<` compares the real values (R11). -/
theorem flt_iff_numVal {a b : NUM} (ha : isFinite a = true) (hb : isFinite b = true) :
    flt a b = true ↔ numVal a < numVal b := by
  rw [flt_eq, numKey_lt_iff, numVal_lt_iff]
  simp [isNaN_of_isFinite ha, isNaN_of_isFinite hb]

theorem numVal_zero : numVal NUM.zero = 0 := by
  have hfix : numFix NUM.zero = 0 := by decide
  rw [numVal, hfix, Int.cast_zero, zero_div]

theorem numVal_one : numVal NUM.one = 1 := by
  have hfix : numFix NUM.one = (oneMag : Int) := by decide +kernel
  rw [numVal_eq, hfix, Int.cast_natCast, div_self (Nat.cast_ne_zero.2 oneMag_pos.ne')]

theorem numMag_of_numVal_pos {x : NUM} (h : 0 < numVal x) : 0 < numMag x ∧ numVal x = (numMag x : ℚ) / oneMag := by
  have hfix : 0 < numFix x := by
    rw [← numVal_zero, numVal_lt_iff] at h
    exact h
  have hmag : numFix x = numMag x := by
    unfold numFix at hfix ⊢
    split at hfix
    case isTrue => omega
    case isFalse hsign => rw [if_neg hsign]
  exact ⟨by omega, by rw [numVal_eq, hmag, Int.cast_natCast]⟩

/-! ### Validation (R151) -/

/-- The model's tests are of the failure, `!b`. -/
theorem not_eq_true_iff {b : Bool} {P : Prop} (h : b = true ↔ P) : (!b) = true ↔ ¬P := by
  rw [Bool.not_eq_true', ← Bool.not_eq_true, h]

/-- The first row: finiteness is tested before the comparisons that need it. -/
theorem check1_iff (d : DesignParams) :
    (isFinite d.wp && isFinite d.ws && isFinite d.dp && isFinite d.ds && isFinite d.g && isFinite d.fs &&
      flt NUM.zero d.fs && flt NUM.zero d.wp) = true ↔
    (isFinite d.wp = true ∧ isFinite d.ws = true ∧ isFinite d.dp = true ∧ isFinite d.ds = true ∧
      isFinite d.g = true ∧ isFinite d.fs = true) ∧ 0 < numVal d.fs ∧ 0 < numVal d.wp := by
  have hpos (x : NUM) (hx : isFinite x = true) : flt NUM.zero x = true ↔ 0 < numVal x := by
    rw [flt_iff_numVal (by decide) hx, numVal_zero]
  simp only [Bool.and_eq_true, and_assoc]
  refine and_congr_right fun hwp => and_congr_right fun _ => and_congr_right fun _ => and_congr_right fun _ =>
    and_congr_right fun _ => and_congr_right fun hfs => ?_
  rw [hpos _ hfs, hpos _ hwp]

/-- The third row: `Ωs < fs/2` is tested as `2·Ωs < fs`, in units. -/
theorem twice_numFix_lt_iff (a b : NUM) : 2 * numFix a < numFix b ↔ numVal a < numVal b / 2 := by
  rw [numVal_eq, numVal_eq, div_right_comm, div_lt_div_iff_of_pos_right (Nat.cast_pos.2 oneMag_pos),
    lt_div_iff₀ two_pos, mul_comm]
  exact_mod_cast Iff.rfl

/-- The fourth row. -/
theorem check4_iff {d : DesignParams} (hds : isFinite d.ds = true) (hdp : isFinite d.dp = true) :
    (flt NUM.zero d.ds && flt d.ds d.dp && flt d.dp NUM.one) = true ↔
    0 < numVal d.ds ∧ numVal d.ds < numVal d.dp ∧ numVal d.dp < 1 := by
  rw [Bool.and_eq_true, Bool.and_eq_true, flt_iff_numVal (by decide) hds, flt_iff_numVal hds hdp,
    flt_iff_numVal hdp (by decide), numVal_zero, numVal_one, and_assoc]

/-- Settles O29: each test of the model is its check on the real values, where the first check gives the finiteness that
the later ones need; the order of the tests is that of the clauses. -/
theorem synthesizerValidates : Obligations.SynthesizerValidates := by
  intro d check1 check2 check3 check4
  have h1 := not_eq_true_iff (check1_iff d)
  have h2 : check1 → _ := fun ⟨⟨hwp, hws, _⟩, _⟩ => not_eq_true_iff (flt_iff_numVal hwp hws)
  have h3 := not_eq_true_iff (decide_eq_true_iff.trans (twice_numFix_lt_iff d.ws d.fs))
  have h4 : check1 → _ := fun ⟨⟨_, _, hdp, hds, _⟩, _⟩ => not_eq_true_iff (check4_iff hds hdp)
  unfold synValidate
  refine ⟨fun f1 => ?operands, fun c1 f2 => ?passband, fun c1 c2 f3 => ?stopband, fun c1 c2 c3 f4 => ?attenuations,
    fun c1 c2 c3 c4 => ?passed⟩
  case operands => rw [if_pos (h1.2 f1)]
  case passband => rw [if_neg (h1.not_left.2 c1), if_pos ((h2 c1).2 f2)]
  case stopband => rw [if_neg (h1.not_left.2 c1), if_neg ((h2 c1).not_left.2 c2), if_pos (h3.2 f3)]
  case attenuations =>
    rw [if_neg (h1.not_left.2 c1), if_neg ((h2 c1).not_left.2 c2), if_neg (h3.not_left.2 c3), if_pos ((h4 c1).2 f4)]
  case passed =>
    rw [if_neg (h1.not_left.2 c1), if_neg ((h2 c1).not_left.2 c2), if_neg (h3.not_left.2 c3),
      if_neg ((h4 c1).not_left.2 c4)]

/-- What R151 secures of the real values of the operands; tied to the model by `validated_of_synValidate`. -/
structure Validated (d : DesignParams) : Prop where
  fs_pos : 0 < numVal d.fs
  wp_pos : 0 < numVal d.wp
  wp_lt_ws : numVal d.wp < numVal d.ws
  ds_pos : 0 < numVal d.ds
  ds_lt_dp : numVal d.ds < numVal d.dp
  dp_lt_one : numVal d.dp < 1

theorem validated_of_synValidate {d : DesignParams} (h : synValidate d = none) : Validated d := by
  obtain ⟨f1, f2, f3, f4, -⟩ := synthesizerValidates d
  rw [h] at f1 f2 f3 f4
  have c1 := of_not_not fun n1 => nomatch f1 n1
  have c2 := of_not_not fun n2 => nomatch f2 c1 n2
  have c3 := of_not_not fun n3 => nomatch f3 c1 c2 n3
  obtain ⟨hds, hdsdp, hdp⟩ := of_not_not fun n4 => nomatch f4 c1 c2 c3 n4
  obtain ⟨-, hfs, hwp⟩ := c1
  exact ⟨hfs, hwp, c2, hds, hdsdp, hdp⟩

/-! ### The whole numbers of the model as real numbers -/

/-- `Ωs/Ωp`, `2·Ωp/fs`: the units cancel in a quotient. -/
theorem numVal_div_eq {x y : NUM} (hx : 0 < numVal x) (hy : 0 < numVal y) :
    (numVal x : ℝ) / numVal y = (numMag x : ℝ) / numMag y := by
  have hone : (oneMag : ℝ) ≠ 0 := Nat.cast_ne_zero.2 oneMag_pos.ne'
  rw [(numMag_of_numVal_pos hx).2, (numMag_of_numVal_pos hy).2]
  push_cast
  exact div_div_div_cancel_right₀ hone _ _

theorem loss_of_quotient {m u : ℝ} (hm : m ≠ 0) : 1 / (m / u) ^ 2 - 1 = (u ^ 2 - m ^ 2) / m ^ 2 := by
  rw [div_pow, one_div_div, sub_div, div_self (pow_ne_zero 2 hm)]

/-- For an attenuation between 0 and 1 the loss `1/δ² − 1` of R152 is the quotient of the model's `lossNum` and `lossDen`,
both positive. -/
theorem loss_eq {x : NUM} (hpos : 0 < numVal x) (hlt : numVal x < 1) :
    0 < lossNum x ∧ 0 < lossDen x ∧ 1 / (numVal x : ℝ) ^ 2 - 1 = (lossNum x : ℝ) / lossDen x := by
  obtain ⟨hmag, hval⟩ := numMag_of_numVal_pos hpos
  have hbelow : numMag x < oneMag := by
    rw [hval, div_lt_one (Nat.cast_pos.2 oneMag_pos)] at hlt
    exact Nat.cast_lt.1 hlt
  have hsq : numMag x ^ 2 < oneMag ^ 2 := Nat.pow_lt_pow_left hbelow two_ne_zero
  refine ⟨Nat.sub_pos_of_lt hsq, Nat.pow_pos hmag, ?_⟩
  rw [hval, lossNum, lossDen, Nat.cast_sub hsq.le]
  push_cast
  exact loss_of_quotient (Nat.cast_ne_zero.2 hmag.ne')

/-! ### The order (R152) -/

/-- The logarithms of R152 taken away: `n` reaches the quotient exactly where `r^(2n)` reaches `A`. -/
theorem logQuotient_le_iff {A r : ℝ} (hA : 1 < A) (hr : 1 < r) (n : Nat) :
    Real.logb 10 A / (2 * Real.logb 10 r) ≤ n ↔ A ≤ r ^ (2 * n) := by
  have hlog : 0 < 2 * Real.logb 10 r := mul_pos two_pos (Real.logb_pos (by norm_num) hr)
  have hpow : (n : ℝ) * (2 * Real.logb 10 r) = Real.logb 10 (r ^ (2 * n)) := by
    rw [Real.logb_pow]
    push_cast
    ring
  rw [div_le_iff₀ hlog, hpow,
    Real.logb_le_logb (by norm_num) (zero_lt_one.trans hA) (pow_pos (zero_lt_one.trans hr) _)]

theorem logQuotient_pos {A r : ℝ} (hA : 1 < A) (hr : 1 < r) : 0 < Real.logb 10 A / (2 * Real.logb 10 r) :=
  div_pos (Real.logb_pos (by norm_num) hA) (mul_pos two_pos (Real.logb_pos (by norm_num) hr))

/-- The stricter attenuation has the greater loss, so the quotient of R152 is of two positive logarithms. -/
theorem one_lt_lossQuotient {x y : ℝ} (hx : 0 < x) (hxy : x < y) (hy : y < 1) :
    1 < (1 / x ^ 2 - 1) / (1 / y ^ 2 - 1) := by
  have hypos : 0 < y := hx.trans hxy
  have hden : 1 < 1 / y ^ 2 := (one_lt_div (by positivity)).2 (pow_lt_one₀ hypos.le hy two_ne_zero)
  have hnum : 1 / y ^ 2 < 1 / x ^ 2 := one_div_lt_one_div_of_lt (by positivity) (pow_lt_pow_left₀ hxy hx.le two_ne_zero)
  rw [one_lt_div (sub_pos.2 hden)]
  linarith

/-- The least order over the reals, by the formula of R152; tied to the model by `orderMeets_iff`. -/
noncomputable def realOrder (d : DesignParams) : Nat :=
  ⌈Real.logb 10 ((1 / (numVal d.ds : ℝ) ^ 2 - 1) / (1 / (numVal d.dp : ℝ) ^ 2 - 1)) /
    (2 * Real.logb 10 ((numVal d.ws : ℝ) / (numVal d.wp : ℝ)))⌉₊

section Order

variable {d : DesignParams}

theorem one_lt_lossQuotient_of_validated (h : Validated d) :
    1 < (1 / (numVal d.ds : ℝ) ^ 2 - 1) / (1 / (numVal d.dp : ℝ) ^ 2 - 1) :=
  one_lt_lossQuotient (by exact_mod_cast h.ds_pos) (by exact_mod_cast h.ds_lt_dp) (by exact_mod_cast h.dp_lt_one)

theorem one_lt_frequencyQuotient_of_validated (h : Validated d) : 1 < (numVal d.ws : ℝ) / (numVal d.wp : ℝ) := by
  rw [one_lt_div (by exact_mod_cast h.wp_pos)]
  exact_mod_cast h.wp_lt_ws

theorem one_le_realOrder (h : Validated d) : 1 ≤ realOrder d :=
  Nat.one_le_ceil_iff.2
    (logQuotient_pos (one_lt_lossQuotient_of_validated h) (one_lt_frequencyQuotient_of_validated h))

/-- The model's comparison of products of powers of whole numbers is the comparison with the order of R152. -/
theorem orderMeets_iff (h : Validated d) (n : Nat) : orderMeets d n = true ↔ realOrder d ≤ n := by
  obtain ⟨hnumS, hdenS, hlossS⟩ := loss_eq h.ds_pos (h.ds_lt_dp.trans h.dp_lt_one)
  obtain ⟨hnumP, hdenP, hlossP⟩ := loss_eq (h.ds_pos.trans h.ds_lt_dp) h.dp_lt_one
  obtain ⟨hwp, -⟩ := numMag_of_numVal_pos h.wp_pos
  rw [realOrder, Nat.ceil_le,
    logQuotient_le_iff (one_lt_lossQuotient_of_validated h) (one_lt_frequencyQuotient_of_validated h),
    hlossS, hlossP, numVal_div_eq (h.wp_pos.trans h.wp_lt_ws) h.wp_pos, div_div_div_eq, div_pow,
    div_le_div_iff₀ (by positivity) (by positivity), orderMeets, decide_eq_true_iff, mul_comm (numMag d.wp ^ _),
    mul_comm (lossNum d.dp), ← Nat.cast_le (α := ℝ)]
  push_cast
  rfl

end Order

/-- The search finds the threshold of what it searches for, if that lies among its candidates. -/
theorem orderFrom_of_threshold {d : DesignParams} {N : Nat} (hN : ∀ n, orderMeets d n = true ↔ N ≤ n) :
    ∀ fuel n : Nat, n ≤ N → orderFrom d fuel n = if N < n + fuel then some N else none
  | 0, n, hn => by rw [orderFrom, if_neg (by omega)]
  | fuel + 1, n, hn => by
    rw [orderFrom]
    by_cases hmeets : orderMeets d n = true
    case pos =>
      have heq : n = N := le_antisymm hn ((hN n).1 hmeets)
      rw [if_pos hmeets, if_pos (by omega), heq]
    case neg =>
      have hlt : n < N := not_le.1 fun hle => hmeets ((hN n).2 hle)
      rw [if_neg hmeets, orderFrom_of_threshold hN fuel (n + 1) hlt, Nat.add_right_comm, Nat.add_assoc]

theorem synOrder_eq_realOrder {taps : Nat} {d : DesignParams} (h : Validated d) :
    synOrder taps d = if realOrder d ≤ taps - 1 then some (realOrder d) else none := by
  rw [synOrder, orderFrom_of_threshold (orderMeets_iff h) _ _ (one_le_realOrder h)]
  exact if_congr (by omega) rfl rfl

/-- Settles O30: the candidates from 1 to `TAPS_MAX − 1` are tried against a test that holds from the order of R152 on. -/
theorem synthesizerOrder : Obligations.SynthesizerOrder := by
  intro taps d hvalid order
  have h : Validated d := validated_of_synValidate hvalid
  have hsyn : synOrder taps d = if order ≤ taps - 1 then some order else none := synOrder_eq_realOrder h
  refine ⟨one_le_realOrder h, fun hfits => by rw [hsyn, if_pos hfits], fun hbig => ?_⟩
  have hnone : synOrder taps d = none := by rw [hsyn, if_neg (not_le.2 hbig)]
  exact ⟨hnone, by simp [synDesign, hvalid, hnone]⟩

/-! ### The cutoff (R153, R154) -/

/-- The root of R153 taken away: the cutoff is below half of `f` exactly where the loss exceeds `(2w/f)^(2n)`. -/
theorem cutoff_lt_iff {w f loss : ℝ} {n : Nat} (hw : 0 < w) (hf : 0 < f) (hloss : 0 < loss) (hn : 1 ≤ n) :
    w / loss ^ (1 / (2 * (n : ℝ))) < f / 2 ↔ (2 * (w / f)) ^ (2 * n) < loss := by
  have hexp : 1 / (2 * (n : ℝ)) = ((2 * n : Nat) : ℝ)⁻¹ := by push_cast; exact one_div _
  have hroot : 0 < loss ^ (1 / (2 * (n : ℝ))) := Real.rpow_pos_of_pos hloss _
  calc w / loss ^ (1 / (2 * (n : ℝ))) < f / 2
      ↔ 2 * (w / f) < loss ^ (1 / (2 * (n : ℝ))) := by
        rw [div_lt_iff₀ hroot, ← mul_div_assoc, div_lt_iff₀ hf]
        constructor <;> intro h <;> linarith
    _ ↔ (2 * (w / f)) ^ (2 * n) < loss := by
        rw [hexp, Real.lt_rpow_inv_iff_of_pos (by positivity) hloss.le (by positivity), Real.rpow_natCast]

/-- The model's comparison of products of powers of whole numbers is the check of R154. -/
theorem cutoffFits_iff {d : DesignParams} (h : Validated d) {n : Nat} (hn : 1 ≤ n) :
    cutoffFits d n = true ↔
      (numVal d.wp : ℝ) / (1 / (numVal d.dp : ℝ) ^ 2 - 1) ^ (1 / (2 * (n : ℝ))) < (numVal d.fs : ℝ) / 2 := by
  obtain ⟨hnum, hden, hloss⟩ := loss_eq (h.ds_pos.trans h.ds_lt_dp) h.dp_lt_one
  obtain ⟨hfs, -⟩ := numMag_of_numVal_pos h.fs_pos
  rw [cutoff_lt_iff (by exact_mod_cast h.wp_pos) (by exact_mod_cast h.fs_pos) (by rw [hloss]; positivity) hn, hloss,
    numVal_div_eq h.wp_pos h.fs_pos, ← mul_div_assoc, div_pow, div_lt_div_iff₀ (by positivity) (by positivity),
    cutoffFits, decide_eq_true_iff, mul_comm (lossNum d.dp : ℝ), ← Nat.cast_lt (α := ℝ)]
  push_cast
  rfl

/-- Settles O31: after validation and with an order, the model's check of the cutoff alone decides the design. -/
theorem synthesizerCutoff : Obligations.SynthesizerCutoff := by
  intro taps d n hvalid horder fc
  have hfits : cutoffFits d n = true ↔ fc < (numVal d.fs : ℝ) / 2 :=
    cutoffFits_iff (validated_of_synValidate hvalid) (synOrder_range horder).1
  have hdesign : synDesign taps d = if cutoffFits d n then .ok (synVectors d n) else .error .designFreqError := by
    rw [synDesign, hvalid, horder]
  exact ⟨fun hge => by rw [hdesign, if_neg (hfits.not.2 (not_lt.2 hge))],
    fun hlt => by rw [hdesign, if_pos (hfits.2 hlt)]⟩

end Sys2Proof.Proofs

/-!
PROOFS. The TICK: its drain phase message by message, and what its sample step makes of the process variable and of the
hysteresis counter (spec/43_lock_controller.md R171 to R177).
-/

namespace Sys2Proof.Proofs

open Sys2Proof Sys2Proof.Machine

/-! ### The drain phase (R171, R172) -/

theorem drain_nil {s : State} (hq : s.cq = []) : drain s.cq s = .next s := by
  rw [hq, drain, ← hq]

/-- The message is executed with the rest of the queue behind it, which no command looks at (R68). -/
theorem drain_cons_of_next {m : Message} {s t : State} (rest : List Message)
    (hexec : execMessage m { s with cq := [] } = .next t) :
    drain (m :: rest) s = drain rest { t with cq := rest } := by
  have hstep : execMessage m { s with cq := rest } = .next { t with cq := rest } :=
    calc execMessage m { s with cq := rest }
        = withQueue rest (execMessage m { s with cq := [] }) := execMessage_withQueue m { s with cq := [] } rest
      _ = .next { t with cq := rest } := by rw [hexec, withQueue]
  rw [drain, hstep]

/-- A TICK sees its state through the drain phase alone. -/
theorem exec_tick_congr_drain {s u : State} (h : drain s.cq s = drain u.cq u) (isNew : Bool) (ch1 ch2 avg : NUM) :
    exec (.tick isNew ch1 ch2 avg) s = exec (.tick isNew ch1 ch2 avg) u := by
  simp only [exec, execTick, h]

theorem exec_tick_withoutSample (s : State) (ch1 ch2 avg : NUM) :
    exec (.tick false ch1 ch2 avg) s = drain s.cq s := by
  rw [exec, execTick]
  cases drain s.cq s with
  | next t => rfl
  | fault r => rfl
  | refused r => rfl

/-- Settles O32: with NEW = 0 nothing follows the drain phase, and an empty queue drains to the state itself. -/
theorem tickWithoutSample : Obligations.TickWithoutSample := fun s ch1 ch2 avg =>
  ⟨exec_tick_withoutSample s ch1 ch2 avg, fun hq => (exec_tick_withoutSample s ch1 ch2 avg).trans (drain_nil hq)⟩

/-- Settles O33: draining the whole queue is executing its head and draining the rest from there. -/
theorem tickDrainsInOrder : Obligations.TickDrainsInOrder := by
  intro s t m rest isNew ch1 ch2 avg hq hexec
  have hdrain : drain s.cq s = drain rest { t with cq := rest } := by rw [hq, drain_cons_of_next rest hexec]
  exact exec_tick_congr_drain hdrain isNew ch1 ch2 avg

/-! ### Which phase of the sample step decides a field (R170) -/

section SampleStep

variable (s : State) (ch1 ch2 avg : NUM)

@[simp] theorem sampleStep_pv : (sampleStep s ch1 ch2 avg).pv = (shape s avg).pv := by simp [sampleStep]

@[simp] theorem sampleStep_aux : (sampleStep s ch1 ch2 avg).aux = (shape s avg).aux := by simp [sampleStep]

@[simp] theorem sampleStep_lpPrimed : (sampleStep s ch1 ch2 avg).lpPrimed = (shape s avg).lpPrimed := by
  simp [sampleStep]

@[simp] theorem sampleStep_lpEff : (sampleStep s ch1 ch2 avg).lpEff = s.lpReq := by simp [sampleStep, shape_lpEff]

/-- Only HYSTERESIS counts, on the shaped process variable (R177). -/
theorem sampleStep_cnt :
    (sampleStep s ch1 ch2 avg).cnt = if pursuing s then (countStep (shape s avg)).cnt else s.cnt := by
  simp [sampleStep, pursuing_shape]

end SampleStep

/-! ### Shaping (R173, R174) -/

/-- On the first filtered tick both histories are the measurement, as if it had always been there (R173). -/
theorem primeAux_h1 (s : State) (avg : NUM) :
    (primeAux s avg).h1 =
      if s.lpPrimed = true then s.aux.h1
      else ⟨List.replicate s.sizes.tapsMax avg, List.replicate s.sizes.tapsMax avg⟩ := by
  cases hprimed : s.lpPrimed <;> simp [primeAux, hprimed, rfReset_def]

/-- Settles O37: of the phases of the sample step only SHAPE writes these four elements, and it has one form for each
value of the toggle in use. -/
theorem tickShapes : Obligations.TickShapes := by
  intro s ch1 ch2 avg hq hready
  refine ⟨sampleStep s ch1 ch2 avg, tick_next ch1 ch2 avg hq hready, ?_⟩
  intro use pad h r
  have huse : lpInUse s = use := rfl
  have hupdate : rfUpdate s.sizes.tapsMax s.aux.coef (primeAux s avg).h1 avg = r := by rw [primeAux_h1]
  refine ⟨sampleStep_lpEff s ch1 ch2 avg, fun hoff => ?off, fun hon => ?on⟩
  case off => simp [shape_off avg (huse.trans hoff)]
  case on => simp [shape_on avg (huse.trans hon), hupdate]

/-! ### Counting (R176, R177) -/

theorem pursuing_iff (s : State) : pursuing s = true ↔ s.lockState ≠ .unlocked ∧ s.tgt = .phase := by
  simp [pursuing, isLocked]

/-- In margin the counter rises to `L`; `L ≤ 2^32 − 1` keeps the sum from wrapping (R7). -/
theorem countStep_cnt_of_inMargin {s : State} (hcfg : cfgValid s.cfg = true) (hgood : inMargin s = true) :
    (countStep s).cnt.toNat = if s.cnt.toNat < s.cfg.counterLimit then s.cnt.toNat + 1 else s.cnt.toNat := by
  have hlimit : s.cfg.counterLimit ≤ 2 ^ 32 - 1 := by
    simp only [cfgValid, Bool.and_eq_true, decide_eq_true_eq] at hcfg
    exact hcfg.2
  rw [countStep, if_pos hgood]
  split
  case isTrue hbelow => exact BitVec.toNat_add_of_lt (show s.cnt.toNat + 1 < 2 ^ 32 by omega)
  case isFalse => rfl

/-- Out of margin the counter falls to 0, which is where subtraction of naturals stops too. -/
theorem countStep_cnt_of_not_inMargin {s : State} (hbad : inMargin s = false) :
    (countStep s).cnt.toNat = s.cnt.toNat - 1 := by
  rw [countStep, if_neg (by simp [hbad])]
  split
  case isTrue hpos => exact BitVec.toNat_sub_of_le (by bv_omega)
  case isFalse hzero => omega

/-- Settles O38: the counter of a TICK is that of one `countStep` on the shaped state if phase lock is pursued, and the
margin is tested on the process variable that the TICK leaves. -/
theorem tickCounts : Obligations.TickCounts := by
  intro s ch1 ch2 avg hq hready hcfg
  refine ⟨sampleStep s ch1 ch2 avg, tick_next ch1 ch2 avg hq hready, ?_⟩
  intro good pursued
  have hgood : inMargin (shape s avg) = good := by
    rw [inMargin, shape_sp, shape_cfg, ← sampleStep_pv s ch1 ch2 avg]
  have hcounts (hp : pursued) : (sampleStep s ch1 ch2 avg).cnt = (countStep (shape s avg)).cnt := by
    rw [sampleStep_cnt, if_pos ((pursuing_iff s).2 hp)]
  refine ⟨fun hidle => ?idle, fun hp hin => ?up, fun hp hout => ?down⟩
  case idle => rw [sampleStep_cnt, if_neg (mt (pursuing_iff s).1 hidle)]
  case up =>
    rw [hcounts hp, countStep_cnt_of_inMargin (by rwa [shape_cfg]) (hgood.trans hin), shape_cnt, shape_cfg]
  case down => rw [hcounts hp, countStep_cnt_of_not_inMargin (hgood.trans hout), shape_cnt]

end Sys2Proof.Proofs

/-!
PROOFS. EXEC: what a message answers by the outcome of its decoding, and the foreign commands
(spec/44_commands.md R200, R201, R224).
-/

namespace Sys2Proof.Proofs

open Sys2Proof Sys2Proof.Machine

/-! ### EXEC by the outcome of the decoding (R201) -/

/-- A message that does not decode is rejected with the status of the error. -/
theorem execMessage_of_decode_error {m : Message} {e : DecodeError} (hdec : decodeMessage m = .error e) (s : State) :
    execMessage m s = .next (reject s (decodeStatus e)) := by
  rw [execMessage, hdec]

/-- A message that decodes is a command, which the drain phase gives the meaning that `exec` gives it (log 17). -/
theorem execMessage_of_decode_ok {m : Message} {i : Instr} (hdec : decodeMessage m = .ok i) (s : State) :
    execMessage m s = exec i s := by
  rw [execMessage, hdec]
  exact execCommand_eq_exec i s (decode_isCommand hdec)

/-- Settles O5: the three outcomes of the decoding, in the order of R88, each with what EXEC makes of it. -/
theorem decodeErrorsAnswer : Obligations.DecodeErrorsAnswer := by
  intro h pay s
  refine ⟨fun hrow => ?no_row, fun op n hrow hexp hne => ?other_length, fun i hdec => ?decodes⟩
  case no_row => exact execMessage_of_decode_error (decode_badCommand hrow) s
  case other_length => exact execMessage_of_decode_error (decode_formatError hrow hexp hne) s
  case decodes => exact execMessage_of_decode_ok hdec s

/-! ### The foreign commands (R224) -/

/-- Settles O14: the rule of each of the ten is the acceptance alone, which is the response 0. -/
theorem foreignCommandsDoNothing : Obligations.ForeignCommandsDoNothing := by
  intro s low pay i hi
  have haccepts : exec i s = .next (accept s) := by
    simp only [List.mem_cons, List.not_mem_nil, or_false] at hi
    obtain rfl | rfl | rfl | rfl | rfl | rfl | rfl | rfl | rfl | rfl := hi
    all_goals rfl
  rw [haccepts, accept_eq, emit]

end Sys2Proof.Proofs

/-!
PROOFS. The RESET operation: how it is presented and what it leaves
(spec/70_reset_and_hazards.md R270, R271; spec/10_state.md R37).
-/

namespace Sys2Proof.Proofs

open Sys2Proof Sys2Proof.Machine

/-! ### From the port to the state after RESET -/

/-- A RESET at the head is performed next, on a full queue too: only ENQUEUE waits for a place (R62). -/
theorem nextOp_reset (full : Bool) (c : Cfg) (rest : List Op) :
    nextOp full (.reset c :: rest) = some (.reset c, rest) := rfl

/-- A record within its constraints is sampled, and only the sizes and what is presented later outlast it (R271, R273). -/
theorem resetOp_of_cfgValid {c : Cfg} (hc : cfgValid c = true) (s : State) :
    resetOp c s = .next (State.resetWith s.sizes c s.inbox) := if_pos hc

/-- An engine that runs performs the RESET that is presented to it. -/
theorem fetch_reset {s : State} {c : Cfg} {rest : List Op} (hsizes : sizesValid s.sizes = true)
    (hcfg : cfgValid s.cfg = true) (hop : s.inbox = .reset c :: rest) :
    fetch s = .done (resetOp c (beginOp s rest)) := by
  simp only [fetch, hsizes, hcfg, hop, nextOp_reset, Bool.and_self, if_true]

/-- RESET leaves the same state whatever was running: the old state gives no more than its sizes. -/
theorem step_reset {s : State} {c : Cfg} {rest : List Op} (hsizes : sizesValid s.sizes = true)
    (hcfg : cfgValid s.cfg = true) (hc : cfgValid c = true) (hop : s.inbox = .reset c :: rest) :
    step s = .next (State.resetWith s.sizes c rest) := by
  rw [step, fetch_reset hsizes hcfg hop]
  exact resetOp_of_cfgValid hc (beginOp s rest)

/-! ### The state after RESET -/

@[simp] theorem ctrlSlot_invalid_valid (taps : Nat) : (CtrlSlot.invalid taps).valid = false := rfl

@[simp] theorem ctrlSlot_invalid_lastoutValid (taps : Nat) : (CtrlSlot.invalid taps).lastoutValid = false := rfl

@[simp] theorem auxSlot_invalid_valid (taps : Nat) : (AuxSlot.invalid taps).valid = false := rfl

/-- Settles O9: the step leaves `State.resetWith`, whose every specified element stands at its reset value (R37). -/
theorem resetOperationWrites : Obligations.ResetOperationWrites := by
  intro s c rest hsizes hcfg hc hop
  refine ⟨State.resetWith s.sizes c rest, step_reset hsizes hcfg hc hop, ?_⟩
  simp [State.resetWith]

end Sys2Proof.Proofs

/-!
PROOFS. Encoding and decoding are inverse to each other: a header is its fields, and a row of the opcode map says which fields
are fixed (spec/30_encoding.md R81, R84, R85, R88, R93).
-/

namespace Sys2Proof.Proofs

open Sys2Proof Sys2Proof.Machine

/- One theorem after the other, as in the tests: side by side each takes a thread, and its stack. -/
set_option Elab.async false

/-! ### What an encoding is decoded by (R84, R85) -/

/-- The encoding of a well-formed instruction selects the instruction's own row. -/
theorem encode_selects_row : ∀ i : Instr, Laws.HeaderRow.Statement i
  | .acqRate .. => Laws.HeaderRow.acqRate _ _
  | .acqChannels .. => Laws.HeaderRow.acqChannels _ _
  | .acqConnect .. => Laws.HeaderRow.acqConnect _ _
  | .acqDisconnect .. => Laws.HeaderRow.acqDisconnect _ _
  | .acqDevices .. => Laws.HeaderRow.acqDevices _ _
  | .actFreq .. => Laws.HeaderRow.actFreq _
  | .actAmp .. => Laws.HeaderRow.actAmp _ _
  | .actPhase .. => Laws.HeaderRow.actPhase _ _
  | .actEn .. => Laws.HeaderRow.actEn _
  | .actConnect .. => Laws.HeaderRow.actConnect _ _
  | .actDisconnect .. => Laws.HeaderRow.actDisconnect _ _
  | .actDevices .. => Laws.HeaderRow.actDevices _ _
  | .filtLoadPid .. => Laws.HeaderRow.filtLoadPid _ _ _
  | .filtLoadI1LP1 .. => Laws.HeaderRow.filtLoadI1LP1 _ _ _ _ _
  | .filtLoadI1LP2 .. => Laws.HeaderRow.filtLoadI1LP2 _ _ _ _ _
  | .filtLoadI2LP1 .. => Laws.HeaderRow.filtLoadI2LP1 _ _ _ _ _
  | .filtLoadI2LP2 .. => Laws.HeaderRow.filtLoadI2LP2 _ _ _ _ _
  | .filtLoadLP .. => Laws.HeaderRow.filtLoadLP _ _
  | .filtDesignI1LP1 .. => Laws.HeaderRow.filtDesignI1LP1 _ _ _ _
  | .filtDesignI1LP2 .. => Laws.HeaderRow.filtDesignI1LP2 _ _ _ _
  | .filtDesignI2LP1 .. => Laws.HeaderRow.filtDesignI2LP1 _ _ _ _
  | .filtDesignI2LP2 .. => Laws.HeaderRow.filtDesignI2LP2 _ _ _ _
  | .filtDesignLP .. => Laws.HeaderRow.filtDesignLP _
  | .lpApply .. => Laws.HeaderRow.lpApply _
  | .reset .. => Laws.HeaderRow.reset _ _
  | .lockB0 => Laws.HeaderRow.lockB0
  | .lockB1 => Laws.HeaderRow.lockB1
  | .sp .. => Laws.HeaderRow.sp _
  | .modeB0 => Laws.HeaderRow.modeB0
  | .modeB1 => Laws.HeaderRow.modeB1
  | .tick .. => Laws.HeaderRow.tick _ _ _ _

section Fields

variable (slot : CtrlSel) (raw : BitVec 2) (kind : BitVec 3) (form : BitVec 1) (sign : Sign)

/-- A vector of at most 255 words finds its length in the header again (R81). -/
theorem hdrNff_filtHeader {ff : List NUM} (fb : List NUM) (hff : fitsLength ff = true) :
    hdrNff (filtHeader raw kind form sign ff fb) = ff.length := by
  rw [filtHeader, hdrNff_headerWord, BitVec.toNat_ofNat]
  exact Nat.mod_eq_of_lt (of_decide_eq_true hff)

theorem hdrNfb_filtHeader (ff : List NUM) {fb : List NUM} (hfb : fitsLength fb = true) :
    hdrNfb (filtHeader raw kind form sign ff fb) = fb.length := by
  rw [filtHeader, hdrNfb_headerWord, BitVec.toNat_ofNat]
  exact Nat.mod_eq_of_lt (of_decide_eq_true hfb)

theorem hdrCtrlSel_filtHeader (ff fb : List NUM) : hdrCtrlSel (filtHeader slot.code kind form sign ff fb) = slot :=
  hdrCtrlSel_headerWord ..

theorem hdrSign_filtHeader (ff fb : List NUM) : hdrSign (filtHeader raw kind form sign ff fb) = sign :=
  hdrSign_headerWord ..

theorem hdrB_plainHeader (dev cmd : BitVec 4) (b : Bool) : hdrB (plainHeader dev cmd (BitVec.ofBool b)) = b := by
  rw [plainHeader, hdrB_headerWord]
  cases b <;> rfl

end Fields

/-- Steps (2) to (4) of the decoding procedure accept the encoding and build the instruction from it (R88). -/
theorem assemble_encode {i : Instr} {op : Opcode} {m : Message} (hwf : i.wf = true) (hop : opcodeOf i = some op)
    (hm : encode i = .message m) : lengthOk op m = true ∧ assemble op m.hdr m.pay = some i := by
  cases i <;> cases hop <;> cases hm
  case acqRate low _ | acqChannels low _ | acqConnect low _ | acqDisconnect low _ | acqDevices low _ |
      actAmp low _ | actPhase low _ | actConnect low _ | actDisconnect low _ | actDevices low _ =>
    exact ⟨rfl, by simp [assemble, foreignHeader_low]⟩
  case actFreq | sp | lockB0 | lockB1 | modeB0 | modeB1 => exact ⟨rfl, rfl⟩
  case actEn | lpApply => exact ⟨rfl, by simp [assemble, payloadNone, hdrB_plainHeader]⟩
  case reset => exact ⟨rfl, by simp [assemble, payloadOne, hdrResetSel_headerWord]⟩
  case filtLoadPid =>
    exact ⟨rfl, by simp [assemble, PidParams.words, payloadPid, hdrCtrlSel_filtHeader, hdrSign_filtHeader]⟩
  case filtLoadI1LP1 | filtLoadI1LP2 | filtLoadI2LP1 | filtLoadI2LP2 =>
    obtain ⟨hff, hfb⟩ := Bool.and_eq_true_iff.1 hwf
    simp [lengthOk, expLen, assemble, LoopParams.words, payloadLoop, hdrCtrlSel_filtHeader, hdrSign_filtHeader,
      hdrNff_filtHeader _ _ _ _ _ hff, hdrNfb_filtHeader _ _ _ _ _ hfb]
    omega
  case filtLoadLP =>
    obtain ⟨hff, hfb⟩ := Bool.and_eq_true_iff.1 hwf
    simp [lengthOk, expLen, assemble, hdrNff_filtHeader _ _ _ _ _ hff, hdrNfb_filtHeader _ _ _ _ _ hfb]
  case filtDesignI1LP1 | filtDesignI1LP2 | filtDesignI2LP1 | filtDesignI2LP2 =>
    exact ⟨rfl, by simp [assemble, LoopParams.words, DesignParams.words, payloadLoop, payloadDesign,
      hdrCtrlSel_filtHeader, hdrSign_filtHeader]⟩
  case filtDesignLP => exact ⟨rfl, by simp [assemble, DesignParams.words, payloadDesign]⟩

/-- Settles O1: the tick record by its fields; a message by the three steps of the decoding procedure, of which the
first finds the instruction's own row. -/
theorem decodeOfEncode : Obligations.DecodeOfEncode := by
  intro i hwf
  cases he : encode i with
  | tickRecord w =>
    cases i <;> cases he
    case tick.refl isNew ch1 ch2 avg => exact congrArg Except.ok (decodeTick_record isNew ch1 ch2 avg)
  | message m =>
    have hrow : findOpcode m.hdr = opcodeOf i := by
      simpa [Laws.HeaderRow.selected, he] using encode_selects_row i hwf
    cases hop : opcodeOf i with
    | none =>
      cases i <;> cases hop
      cases he
    | some op =>
      obtain ⟨hlen, hasm⟩ := assemble_encode hwf hop he
      exact decode_ok (hrow.trans hop) hlen hasm

/-! ### A header is its fields (R81) -/

theorem append_inj {m n : Nat} {a c : BitVec m} {b d : BitVec n} : a ++ b = c ++ d ↔ a = c ∧ b = d := by
  refine ⟨fun h => ?_, fun ⟨hl, hr⟩ => by rw [hl, hr]⟩
  have hl : a = c := by
    rw [← BitVec.extractLsb'_append_eq_left (a := a) (b := b), h, BitVec.extractLsb'_append_eq_left]
  subst hl
  exact ⟨rfl, (BitVec.append_right_inj a).1 h⟩

theorem headerWord_inj {d1 c1 d2 c2 : BitVec 4} {s1 s2 : BitVec 2} {k1 k2 : BitVec 3} {f1 g1 b1 f2 g2 b2 : BitVec 1}
    {m1 n1 m2 n2 : BitVec 8} :
    headerWord d1 c1 s1 k1 f1 g1 b1 m1 n1 = headerWord d2 c2 s2 k2 f2 g2 b2 m2 n2 ↔
      d1 = d2 ∧ c1 = c2 ∧ s1 = s2 ∧ k1 = k2 ∧ f1 = f2 ∧ g1 = g2 ∧ b1 = b2 ∧ m1 = m2 ∧ n1 = n2 := by
  unfold headerWord
  show (d1 ++ c1 ++ s1 ++ k1 ++ f1 ++ g1 ++ b1 ++ m1 ++ n1 : BitVec (4 + 4 + 2 + 3 + 1 + 1 + 1 + 8 + 8)) =
    (d2 ++ c2 ++ s2 ++ k2 ++ f2 ++ g2 ++ b2 ++ m2 ++ n2 : BitVec (4 + 4 + 2 + 3 + 1 + 1 + 1 + 8 + 8)) ↔ _
  simp only [append_inj, and_assoc]

theorem headerWord_fields (h : Header) :
    headerWord (h.extractLsb' 28 4) (h.extractLsb' 24 4) (h.extractLsb' 22 2) (h.extractLsb' 19 3)
      (h.extractLsb' 18 1) (h.extractLsb' 17 1) (h.extractLsb' 16 1) (h.extractLsb' 8 8) (h.extractLsb' 0 8) = h := by
  refine BitVec.eq_of_getLsbD_eq fun i hi => ?_
  rw [headerWord_getLsbD]
  simp only [BitVec.getLsbD_extractLsb']
  grind

/-- A header matches a row where each of its fields does. -/
theorem matches_headerWord (r : TableRow) (dev cmd : BitVec 4) (slot : BitVec 2) (kind : BitVec 3)
    (form sign b : BitVec 1) (nff nfb : BitVec 8) :
    r.matches (headerWord dev cmd slot kind form sign b nff nfb) = true ↔
      dev &&& r.mask.extractLsb' 28 4 = r.pattern.extractLsb' 28 4 ∧
      cmd &&& r.mask.extractLsb' 24 4 = r.pattern.extractLsb' 24 4 ∧
      slot &&& r.mask.extractLsb' 22 2 = r.pattern.extractLsb' 22 2 ∧
      kind &&& r.mask.extractLsb' 19 3 = r.pattern.extractLsb' 19 3 ∧
      form &&& r.mask.extractLsb' 18 1 = r.pattern.extractLsb' 18 1 ∧
      sign &&& r.mask.extractLsb' 17 1 = r.pattern.extractLsb' 17 1 ∧
      b &&& r.mask.extractLsb' 16 1 = r.pattern.extractLsb' 16 1 ∧
      nff &&& r.mask.extractLsb' 8 8 = r.pattern.extractLsb' 8 8 ∧
      nfb &&& r.mask.extractLsb' 0 8 = r.pattern.extractLsb' 0 8 := by
  rw [TableRow.matches, beq_iff_eq, ← headerWord_inj, ← headerWord_and, headerWord_fields, headerWord_fields]

theorem foreignHeader_inj {d1 c1 d2 c2 : BitVec 4} {l1 l2 : BitVec 24} :
    foreignHeader d1 c1 l1 = foreignHeader d2 c2 l2 ↔ d1 = d2 ∧ c1 = c2 ∧ l1 = l2 := by
  unfold foreignHeader
  show (d1 ++ c1 ++ l1 : BitVec (4 + 4 + 24)) = (d2 ++ c2 ++ l2 : BitVec (4 + 4 + 24)) ↔ _
  simp only [append_inj, and_assoc]

theorem foreignHeader_fields (h : Header) :
    foreignHeader (h.extractLsb' 28 4) (h.extractLsb' 24 4) (h.extractLsb' 0 24) = h := by
  unfold foreignHeader
  show (h.extractLsb' 28 4 ++ h.extractLsb' 24 4 ++ h.extractLsb' 0 24 : BitVec (4 + 4 + 24)) = h
  refine BitVec.eq_of_getLsbD_eq fun i hi => ?_
  simp only [BitVec.getLsbD_append, BitVec.getLsbD_extractLsb']
  grind

theorem record_fields (w : TickWord) :
    BitVec.ofBool (w.getLsbD 192) ++ w.extractLsb' 128 64 ++ w.extractLsb' 64 64 ++ w.extractLsb' 0 64 = w := by
  refine BitVec.eq_of_getLsbD_eq fun i hi => ?_
  rw [record_getLsbD]
  simp only [BitVec.getLsbD_extractLsb', BitVec.getLsbD_ofBool]
  obtain rfl | hlt : i = 192 ∨ i < 192 := by omega
  · rfl
  · grind

/-! ### The header of a row, from what the decoder reads of it (R84, R85, R89) -/

/-- The row of the opcode map with a given name; tied to the map by `matches_rowOf`. -/
def rowOf (op : Opcode) : TableRow := (opcodeTable.find? (·.op == op)).getD ⟨op, 0, 0⟩

theorem rowOf_op : ∀ r ∈ opcodeTable, rowOf r.op = r := by decide

theorem matches_rowOf {h : Header} {op : Opcode} (hrow : findOpcode h = some op) : (rowOf op).matches h = true := by
  obtain ⟨r, hr, rfl, hmatch⟩ := findOpcode_some hrow
  rwa [rowOf_op r hr]

/-- A foreign header is its DEV, its CMD and the ignored bits, which the decoder keeps. -/
theorem foreignHeader_of_row {h : Header} {op : Opcode} (dev cmd : BitVec 4) (hrow : findOpcode h = some op)
    (hpat : (rowOf op).pattern = foreignHeader dev cmd 0 := by rfl)
    (hmask : (rowOf op).mask = foreignHeader 15 15 0 := by rfl) :
    foreignHeader dev cmd (h.extractLsb' 0 24) = h := by
  have hmatch := matches_rowOf hrow
  have hall (x : BitVec 4) : x &&& 15 = x := BitVec.and_allOnes
  rw [TableRow.matches, beq_iff_eq, hpat, hmask, ← foreignHeader_fields h, foreignHeader_and, foreignHeader_inj, hall,
    hall] at hmatch
  obtain ⟨hdev, hcmd, -⟩ := hmatch
  rw [← hdev, ← hcmd, foreignHeader_fields]

section Fields

variable (dev cmd : BitVec 4) (slot : BitVec 2) (kind : BitVec 3) (form sign b : BitVec 1) (nff nfb : BitVec 8)

theorem hdrCtrlSel_code (hslot : slot &&& 2 = 0) :
    (hdrCtrlSel (headerWord dev cmd slot kind form sign b nff nfb)).code = slot := by
  have hbit : (headerWord dev cmd slot kind form sign b nff nfb).getLsbD 22 = slot.getLsbD 0 := headerWord_getLsbD ..
  rw [hdrCtrlSel, hbit]
  clear hbit
  revert slot
  decide

theorem hdrResetSel_code : (hdrResetSel (headerWord dev cmd slot kind form sign b nff nfb)).code = slot := by
  have hlow : (headerWord dev cmd slot kind form sign b nff nfb).getLsbD 22 = slot.getLsbD 0 := headerWord_getLsbD ..
  have hhigh : (headerWord dev cmd slot kind form sign b nff nfb).getLsbD 23 = slot.getLsbD 1 := headerWord_getLsbD ..
  rw [hdrResetSel, hlow, hhigh]
  clear hlow hhigh
  revert slot
  decide

theorem hdrSign_bit : (hdrSign (headerWord dev cmd slot kind form sign b nff nfb)).bit = sign := by
  have hbit : (headerWord dev cmd slot kind form sign b nff nfb).getLsbD 17 = sign.getLsbD 0 := headerWord_getLsbD ..
  rw [hdrSign, hbit]
  clear hbit
  revert sign
  decide

theorem ofBool_hdrB : BitVec.ofBool (hdrB (headerWord dev cmd slot kind form sign b nff nfb)) = b := by
  rw [hdrB_headerWord]
  revert b
  decide

end Fields

/-- A field under a full mask is fixed. -/
theorem eq_of_and_full {n : Nat} {x m v : BitVec n} (h : x &&& m = v) (hm : m = BitVec.allOnes n := by rfl) : v = x := by
  rw [← h, hm, BitVec.and_allOnes]

section Rows

variable {h : Header} {op : Opcode}

/-- The fields of a header of a row, under the row's mask. -/
theorem fields_of_row (hrow : findOpcode h = some op) :
    ∃ dev cmd slot kind form sign b nff nfb, h = headerWord dev cmd slot kind form sign b nff nfb ∧
      headerWord dev cmd slot kind form sign b nff nfb &&& (rowOf op).mask = (rowOf op).pattern := by
  have hmatch := matches_rowOf hrow
  rw [TableRow.matches, beq_iff_eq, ← headerWord_fields h] at hmatch
  exact ⟨_, _, _, _, _, _, _, _, _, (headerWord_fields h).symm, hmatch⟩

/-- A row whose mask is full has one header. -/
theorem header_of_full_row (hrow : findOpcode h = some op) (hmask : (rowOf op).mask = BitVec.allOnes 32 := by rfl) :
    (rowOf op).pattern = h := by
  have hmatch := matches_rowOf hrow
  rw [TableRow.matches, beq_iff_eq, hmask, BitVec.and_allOnes] at hmatch
  exact hmatch.symm

/-- A row that leaves only B free. -/
theorem plainHeader_of_row (dev cmd : BitVec 4) (hrow : findOpcode h = some op)
    (hpat : (rowOf op).pattern = plainHeader dev cmd 0 := by rfl)
    (hmask : (rowOf op).mask = headerWord 15 15 3 7 1 1 0 255 255 := by rfl) :
    plainHeader dev cmd (BitVec.ofBool (hdrB h)) = h := by
  obtain ⟨_, _, _, _, _, _, _, _, _, rfl, hmatch⟩ := fields_of_row hrow
  rw [hpat, hmask, headerWord_and, plainHeader, headerWord_inj] at hmatch
  obtain ⟨hdev, hcmd, hslot, hkind, hform, hsign, -, hnff, hnfb⟩ := hmatch
  rw [plainHeader, ofBool_hdrB, headerWord_inj]
  exact ⟨eq_of_and_full hdev, eq_of_and_full hcmd, eq_of_and_full hslot, eq_of_and_full hkind, eq_of_and_full hform,
    eq_of_and_full hsign, rfl, eq_of_and_full hnff, eq_of_and_full hnfb⟩

/-- The row of the RESET command leaves only SLOT free. -/
theorem resetHeader_of_row (hrow : findOpcode h = some .reset) :
    headerWord 3 2 (hdrResetSel h).code 0 0 0 0 0 0 = h := by
  obtain ⟨_, _, _, _, _, _, _, _, _, rfl, hmatch⟩ := fields_of_row hrow
  have hpat : (rowOf .reset).pattern = headerWord 3 2 0 0 0 0 0 0 0 := rfl
  have hmask : (rowOf .reset).mask = headerWord 15 15 0 7 1 1 1 255 255 := rfl
  rw [hpat, hmask, headerWord_and, headerWord_inj] at hmatch
  obtain ⟨hdev, hcmd, -, hkind, hform, hsign, hb, hnff, hnfb⟩ := hmatch
  rw [hdrResetSel_code, headerWord_inj]
  exact ⟨eq_of_and_full hdev, eq_of_and_full hcmd, rfl, eq_of_and_full hkind, eq_of_and_full hform,
    eq_of_and_full hsign, eq_of_and_full hb, eq_of_and_full hnff, eq_of_and_full hnfb⟩

/-- A `filt` form to a control slot: kind and form by the row, the rest as the decoder reads it. -/
theorem filtHeader_of_row (kind : BitVec 3) (form : BitVec 1) {ff fb : List NUM} (lm : BitVec 8)
    (hrow : findOpcode h = some op) (hff : ff.length = hdrNff h) (hfb : fb.length = hdrNfb h)
    (hpat : (rowOf op).pattern = headerWord 3 0 0 kind form 0 0 0 0 := by rfl)
    (hmask : (rowOf op).mask = headerWord 15 15 2 7 1 0 1 lm lm := by rfl) :
    filtHeader (hdrCtrlSel h).code kind form (hdrSign h) ff fb = h := by
  obtain ⟨_, _, _, _, _, _, _, _, _, rfl, hmatch⟩ := fields_of_row hrow
  rw [hpat, hmask, headerWord_and, headerWord_inj] at hmatch
  obtain ⟨hdev, hcmd, hslot, hkind, hform, -, hb, -, -⟩ := hmatch
  rw [hdrNff_headerWord] at hff
  rw [hdrNfb_headerWord] at hfb
  rw [filtHeader, headerWord_inj, hdrCtrlSel_code _ _ _ _ _ _ _ _ _ hslot, hdrSign_bit, hff, hfb,
    BitVec.ofNat_toNat, BitVec.ofNat_toNat]
  exact ⟨eq_of_and_full hdev, eq_of_and_full hcmd, rfl, eq_of_and_full hkind, eq_of_and_full hform, rfl,
    eq_of_and_full hb, BitVec.setWidth_eq _, BitVec.setWidth_eq _⟩

/-- The row of FILT.LOAD.LP leaves only the lengths free. -/
theorem lpHeader_of_row {ff fb : List NUM} (hrow : findOpcode h = some .filtLoadLP) (hff : ff.length = hdrNff h)
    (hfb : fb.length = hdrNfb h) : filtHeader 2 5 0 .plus ff fb = h := by
  obtain ⟨_, _, _, _, _, _, _, _, _, rfl, hmatch⟩ := fields_of_row hrow
  have hpat : (rowOf .filtLoadLP).pattern = headerWord 3 0 2 5 0 0 0 0 0 := rfl
  have hmask : (rowOf .filtLoadLP).mask = headerWord 15 15 3 7 1 1 1 0 0 := rfl
  rw [hpat, hmask, headerWord_and, headerWord_inj] at hmatch
  obtain ⟨hdev, hcmd, hslot, hkind, hform, hsign, hb, -, -⟩ := hmatch
  rw [hdrNff_headerWord] at hff
  rw [hdrNfb_headerWord] at hfb
  rw [filtHeader, headerWord_inj, hff, hfb, BitVec.ofNat_toNat, BitVec.ofNat_toNat]
  exact ⟨eq_of_and_full hdev, eq_of_and_full hcmd, eq_of_and_full hslot, eq_of_and_full hkind, eq_of_and_full hform,
    eq_of_and_full hsign, eq_of_and_full hb, BitVec.setWidth_eq _, BitVec.setWidth_eq _⟩

/-- Where a row fixes NFF and NFB, it fixes them to 0. -/
theorem hdrLengths_of_row (hrow : findOpcode h = some op)
    (hpat : (rowOf op).pattern.extractLsb' 8 8 = 0 ∧ (rowOf op).pattern.extractLsb' 0 8 = 0 := by decide)
    (hmask : (rowOf op).mask.extractLsb' 8 8 = BitVec.allOnes 8 ∧ (rowOf op).mask.extractLsb' 0 8 = BitVec.allOnes 8 := by
      decide) : 0 = hdrNff h ∧ 0 = hdrNfb h := by
  have hmatch := matches_rowOf hrow
  rw [← headerWord_fields h, matches_headerWord, hpat.1, hpat.2] at hmatch
  obtain ⟨-, -, -, -, -, -, -, hnff, hnfb⟩ := hmatch
  rw [hdrNff, hdrNfb, ← eq_of_and_full hnff hmask.1, ← eq_of_and_full hnfb hmask.2]
  exact ⟨rfl, rfl⟩

end Rows

/-! ### The payload, from what the decoder reads of it (R84, R85) -/

theorem payloadNone_eq_some {pay : List NUM} {u : Unit} (h : payloadNone pay = some u) : pay = [] := by
  cases pay with
  | nil => rfl
  | cons v pay => cases h

theorem payloadOne_eq_some {pay : List NUM} {v : NUM} (h : payloadOne pay = some v) : pay = [v] := by
  unfold payloadOne at h
  split at h <;> cases h
  rfl

theorem payloadPid_eq_some {pay : List NUM} {p : PidParams} (h : payloadPid pay = some p) : pay = p.words := by
  unfold payloadPid at h
  split at h <;> cases h
  rfl

theorem payloadLoop_eq_some {pay : List NUM} {q : LoopParams × List NUM} (h : payloadLoop pay = some q) :
    pay = q.1.words ++ q.2 := by
  unfold payloadLoop at h
  split at h <;> cases h
  rfl

theorem payloadDesign_eq_some {pay : List NUM} {d : DesignParams} (h : payloadDesign pay = some d) :
    pay = d.words := by
  unfold payloadDesign at h
  split at h <;> cases h
  rfl

/-- A rest of `NFF + NFB` words is cut into vectors of `NFF` and of `NFB` entries, both of which fit their fields. -/
theorem vectors_of_length {h : Header} {ws : List NUM} (hlen : ws.length = hdrNff h + hdrNfb h) :
    (ws.take (hdrNff h)).length = hdrNff h ∧ (ws.drop (hdrNff h)).length = hdrNfb h ∧
      (fitsLength (ws.take (hdrNff h)) && fitsLength (ws.drop (hdrNff h))) = true := by
  have hnff : hdrNff h < 256 := BitVec.isLt _
  have hnfb : hdrNfb h < 256 := BitVec.isLt _
  have htake : (ws.take (hdrNff h)).length = hdrNff h := by rw [List.length_take]; omega
  have hdrop : (ws.drop (hdrNff h)).length = hdrNfb h := by rw [List.length_drop]; omega
  exact ⟨htake, hdrop, by simp only [fitsLength, htake, hdrop, hnff, hnfb, decide_true, Bool.and_self]⟩

/-! ### The converse round trip -/

theorem message_congr {h h' : Header} {pay pay' : List NUM} (hh : h' = h) (hpay : pay = pay') :
    Encoded.message ⟨h', pay'⟩ = .message ⟨h, pay⟩ := by
  rw [hh, hpay]

/-- The LOAD form `f` of a Loop kind: the six scalars, then the two vectors by their lengths. -/
theorem encode_loadLoop_of_row {h : Header} {pay : List NUM} {op : Opcode} {i : Instr} (kind : BitVec 3)
    {f : CtrlSel → Sign → LoopParams → List NUM → List NUM → Instr} (hrow : findOpcode h = some op)
    (hlen : pay.length = 6 + hdrNff h + hdrNfb h)
    (hasm : ((payloadLoop pay).map fun q =>
      f (hdrCtrlSel h) (hdrSign h) q.1 (q.2.take (hdrNff h)) (q.2.drop (hdrNff h))) = some i)
    (hwf : ∀ slot sign p ff fb, (f slot sign p ff fb).wf = (fitsLength ff && fitsLength fb))
    (henc : ∀ slot sign p ff fb, encode (f slot sign p ff fb) =
      .message ⟨filtHeader slot.code kind 0 sign ff fb, p.words ++ ff ++ fb⟩)
    (hpat : (rowOf op).pattern = headerWord 3 0 0 kind 0 0 0 0 0 := by rfl)
    (hmask : (rowOf op).mask = headerWord 15 15 2 7 1 0 1 0 0 := by rfl) :
    i.wf = true ∧ encode i = .message ⟨h, pay⟩ := by
  obtain ⟨⟨p, ws⟩, hpay, rfl⟩ := Option.map_eq_some_iff.1 hasm
  have hws : pay = p.words ++ ws := payloadLoop_eq_some hpay
  have hrest : ws.length = hdrNff h + hdrNfb h := by
    rw [hws, List.length_append, LoopParams.words] at hlen
    simp only [List.length_cons, List.length_nil] at hlen
    omega
  obtain ⟨hff, hfb, hfits⟩ := vectors_of_length hrest
  refine ⟨(hwf ..).trans hfits, (henc ..).trans (message_congr (filtHeader_of_row kind 0 0 hrow hff hfb hpat hmask) ?_)⟩
  rw [List.append_assoc, List.take_append_drop, hws]

/-- The DESIGN form `f` of a Loop kind: six scalars and six synthesizer operands. -/
theorem encode_designLoop_of_row {h : Header} {pay : List NUM} {op : Opcode} {i : Instr} (kind : BitVec 3)
    {f : CtrlSel → Sign → LoopParams → DesignParams → Instr} (hrow : findOpcode h = some op)
    (hlengths : 0 = hdrNff h ∧ 0 = hdrNfb h)
    (hasm : ((payloadLoop pay).bind fun q => (payloadDesign q.2).map (f (hdrCtrlSel h) (hdrSign h) q.1)) = some i)
    (hwf : ∀ slot sign p d, (f slot sign p d).wf = true)
    (henc : ∀ slot sign p d, encode (f slot sign p d) =
      .message ⟨filtHeader slot.code kind 1 sign [] [], p.words ++ d.words⟩)
    (hpat : (rowOf op).pattern = headerWord 3 0 0 kind 1 0 0 0 0 := by rfl)
    (hmask : (rowOf op).mask = headerWord 15 15 2 7 1 0 1 255 255 := by rfl) :
    i.wf = true ∧ encode i = .message ⟨h, pay⟩ := by
  obtain ⟨⟨p, ws⟩, hpay, hd⟩ := Option.bind_eq_some_iff.1 hasm
  obtain ⟨d, hws, rfl⟩ := Option.map_eq_some_iff.1 hd
  obtain ⟨hff, hfb⟩ := hlengths
  refine ⟨hwf .., (henc ..).trans (message_congr (filtHeader_of_row kind 1 255 hrow hff hfb hpat hmask) ?_)⟩
  rw [payloadLoop_eq_some hpay, payloadDesign_eq_some hws]

/-- What is assembled from a header of a row and a payload of its length is well-formed and has that header and that payload
for its encoding. -/
theorem encode_assemble {h : Header} {pay : List NUM} {op : Opcode} {i : Instr} (hrow : findOpcode h = some op)
    (hlen : lengthOk op ⟨h, pay⟩ = true) (hasm : assemble op h pay = some i) :
    i.wf = true ∧ encode i = .message ⟨h, pay⟩ := by
  have hexp (n : Nat) (hn : expLen op h = some n) : pay.length = n := lengthOk_iff.1 hlen n hn
  cases op
  case acqRate => cases hasm; exact ⟨rfl, message_congr (foreignHeader_of_row 1 0 hrow) rfl⟩
  case acqChannels => cases hasm; exact ⟨rfl, message_congr (foreignHeader_of_row 1 1 hrow) rfl⟩
  case acqConnect => cases hasm; exact ⟨rfl, message_congr (foreignHeader_of_row 1 2 hrow) rfl⟩
  case acqDisconnect => cases hasm; exact ⟨rfl, message_congr (foreignHeader_of_row 1 3 hrow) rfl⟩
  case acqDevices => cases hasm; exact ⟨rfl, message_congr (foreignHeader_of_row 1 4 hrow) rfl⟩
  case actAmp => cases hasm; exact ⟨rfl, message_congr (foreignHeader_of_row 2 1 hrow) rfl⟩
  case actPhase => cases hasm; exact ⟨rfl, message_congr (foreignHeader_of_row 2 2 hrow) rfl⟩
  case actConnect => cases hasm; exact ⟨rfl, message_congr (foreignHeader_of_row 2 4 hrow) rfl⟩
  case actDisconnect => cases hasm; exact ⟨rfl, message_congr (foreignHeader_of_row 2 5 hrow) rfl⟩
  case actDevices => cases hasm; exact ⟨rfl, message_congr (foreignHeader_of_row 2 6 hrow) rfl⟩
  case actEn =>
    obtain ⟨_, hpay, rfl⟩ := Option.map_eq_some_iff.1 hasm
    exact ⟨rfl, message_congr (plainHeader_of_row 2 3 hrow) (payloadNone_eq_some hpay)⟩
  case lpApply =>
    obtain ⟨_, hpay, rfl⟩ := Option.map_eq_some_iff.1 hasm
    exact ⟨rfl, message_congr (plainHeader_of_row 3 1 hrow) (payloadNone_eq_some hpay)⟩
  case lockB0 | lockB1 | modeB0 | modeB1 =>
    obtain ⟨_, hpay, rfl⟩ := Option.map_eq_some_iff.1 hasm
    exact ⟨rfl, message_congr (header_of_full_row hrow) (payloadNone_eq_some hpay)⟩
  case actFreq | sp =>
    obtain ⟨_, hpay, rfl⟩ := Option.map_eq_some_iff.1 hasm
    exact ⟨rfl, message_congr (header_of_full_row hrow) (payloadOne_eq_some hpay)⟩
  case reset =>
    obtain ⟨_, hpay, rfl⟩ := Option.map_eq_some_iff.1 hasm
    exact ⟨rfl, message_congr (resetHeader_of_row hrow) (payloadOne_eq_some hpay)⟩
  case filtLoadPid =>
    obtain ⟨_, hpay, rfl⟩ := Option.map_eq_some_iff.1 hasm
    obtain ⟨hff, hfb⟩ := hdrLengths_of_row hrow
    exact ⟨rfl, message_congr (filtHeader_of_row 0 0 255 hrow hff hfb) (payloadPid_eq_some hpay)⟩
  case filtLoadLP =>
    cases hasm
    obtain ⟨hff, hfb, hwf⟩ := vectors_of_length (hexp _ rfl)
    exact ⟨hwf, message_congr (lpHeader_of_row hrow hff hfb) (List.take_append_drop _ pay).symm⟩
  case filtDesignLP =>
    obtain ⟨_, hpay, rfl⟩ := Option.map_eq_some_iff.1 hasm
    exact ⟨rfl, message_congr (header_of_full_row hrow) (payloadDesign_eq_some hpay)⟩
  case filtLoadI1LP1 => exact
    encode_loadLoop_of_row 1 hrow (hexp _ rfl) hasm (fun _ _ _ _ _ => rfl) fun _ _ _ _ _ => rfl
  case filtLoadI1LP2 => exact
    encode_loadLoop_of_row 2 hrow (hexp _ rfl) hasm (fun _ _ _ _ _ => rfl) fun _ _ _ _ _ => rfl
  case filtLoadI2LP1 => exact
    encode_loadLoop_of_row 3 hrow (hexp _ rfl) hasm (fun _ _ _ _ _ => rfl) fun _ _ _ _ _ => rfl
  case filtLoadI2LP2 => exact
    encode_loadLoop_of_row 4 hrow (hexp _ rfl) hasm (fun _ _ _ _ _ => rfl) fun _ _ _ _ _ => rfl
  case filtDesignI1LP1 => exact
    encode_designLoop_of_row 1 hrow (hdrLengths_of_row hrow) hasm (fun _ _ _ _ => rfl) fun _ _ _ _ => rfl
  case filtDesignI1LP2 => exact
    encode_designLoop_of_row 2 hrow (hdrLengths_of_row hrow) hasm (fun _ _ _ _ => rfl) fun _ _ _ _ => rfl
  case filtDesignI2LP1 => exact
    encode_designLoop_of_row 3 hrow (hdrLengths_of_row hrow) hasm (fun _ _ _ _ => rfl) fun _ _ _ _ => rfl
  case filtDesignI2LP2 => exact
    encode_designLoop_of_row 4 hrow (hdrLengths_of_row hrow) hasm (fun _ _ _ _ => rfl) fun _ _ _ _ => rfl

/-- Settles O2: a tick record is the join of its four fields; a message decodes only by the three steps of the decoding
procedure, each of which is undone. -/
theorem encodeOfDecode : Obligations.EncodeOfDecode := by
  rintro (⟨h, pay⟩ | w) i hdec
  case message =>
    rw [decode, decodeMessage] at hdec
    split at hdec
    case h_1 => cases hdec
    case h_2 op hrow =>
      split at hdec
      case isFalse => cases hdec
      case isTrue hlen =>
        split at hdec
        case h_1 j hasm => cases hdec; exact encode_assemble hrow hlen hasm
        case h_2 => cases hdec
  case tickRecord =>
    cases hdec
    exact ⟨rfl, congrArg Encoded.tickRecord (record_fields w)⟩

end Sys2Proof.Proofs

/-!
PROOFS. The reserved headers, command by command, and what executing one answers (spec/30_encoding.md R87, R89).
-/

namespace Sys2Proof.Proofs

open Sys2Proof Sys2Proof.Machine

/- One theorem after the other, as in the tests: side by side each takes a thread, and its stack. -/
set_option Elab.async false

/-- The rows of one command: every row fixes DEV and CMD; tied to the opcode map by `reserved_iff`. -/
def rowsOf (dev cmd : BitVec 4) : List TableRow :=
  opcodeTable.filter fun r => r.pattern.extractLsb' 28 4 == dev && r.pattern.extractLsb' 24 4 == cmd

theorem rows_fix_command :
    ∀ r ∈ opcodeTable, r.mask.extractLsb' 28 4 = BitVec.allOnes 4 ∧ r.mask.extractLsb' 24 4 = BitVec.allOnes 4 := by
  decide

section Reserved

variable (dev cmd : BitVec 4) (slot : BitVec 2) (kind : BitVec 3) (form sign b : BitVec 1) (nff nfb : BitVec 8)

/-- The fields below CMD are those that the row asks for. -/
def lowFieldsMatch (r : TableRow) : Prop :=
  slot &&& r.mask.extractLsb' 22 2 = r.pattern.extractLsb' 22 2 ∧
    kind &&& r.mask.extractLsb' 19 3 = r.pattern.extractLsb' 19 3 ∧
    form &&& r.mask.extractLsb' 18 1 = r.pattern.extractLsb' 18 1 ∧
    sign &&& r.mask.extractLsb' 17 1 = r.pattern.extractLsb' 17 1 ∧
    b &&& r.mask.extractLsb' 16 1 = r.pattern.extractLsb' 16 1 ∧
    nff &&& r.mask.extractLsb' 8 8 = r.pattern.extractLsb' 8 8 ∧
    nfb &&& r.mask.extractLsb' 0 8 = r.pattern.extractLsb' 0 8

/-- A header is reserved where no row of its command asks for its other fields. -/
theorem reserved_iff :
    findOpcode (headerWord dev cmd slot kind form sign b nff nfb) = none ↔
      ∀ r ∈ rowsOf dev cmd, ¬lowFieldsMatch slot kind form sign b nff nfb r := by
  simp only [findOpcode_eq_none_iff, ← Bool.not_eq_true, matches_headerWord, rowsOf, List.mem_filter, Bool.and_eq_true,
    beq_iff_eq, lowFieldsMatch]
  refine forall_congr' fun r => ⟨fun h ⟨hr, hdev, hcmd⟩ hlow => h hr ?_, fun h hr ⟨hdev, hcmd, hlow⟩ => h ⟨hr, ?_⟩ hlow⟩
  · obtain ⟨hd, hc⟩ := rows_fix_command r hr
    rw [hd, hc, BitVec.and_allOnes, BitVec.and_allOnes]
    exact ⟨hdev.symm, hcmd.symm, hlow⟩
  · obtain ⟨hd, hc⟩ := rows_fix_command r hr
    rw [hd, BitVec.and_allOnes] at hdev
    rw [hc, BitVec.and_allOnes] at hcmd
    exact ⟨hdev.symm, hcmd.symm⟩

theorem reserved_of_no_rows (h : rowsOf dev cmd = []) :
    findOpcode (headerWord dev cmd slot kind form sign b nff nfb) = none := by
  simp [reserved_iff, h]

/-! The full masks of the field widths. -/

theorem and_full_1 (x : BitVec 1) : x &&& 1#1 = x := BitVec.and_allOnes

theorem and_full_2 (x : BitVec 2) : x &&& 3#2 = x := BitVec.and_allOnes

theorem and_full_3 (x : BitVec 3) : x &&& 7#3 = x := BitVec.and_allOnes

theorem and_full_8 (x : BitVec 8) : x &&& 255#8 = x := BitVec.and_allOnes

/-- Device 3, command 0: the `filt` forms. -/
theorem reserved_filt_iff :
    findOpcode (headerWord 3 0 slot kind form sign b nff nfb) = none ↔
      6 ≤ kind.toNat ∨ (kind = 0 ∧ form = 1) ∨ (kind.toNat ≤ 4 ∧ 2 ≤ slot.toNat) ∨ (kind = 5 ∧ slot ≠ 2) ∨
        (kind = 5 ∧ sign = 1) ∨ b = 1 ∨ ((kind = 0 ∨ form = 1) ∧ (nff ≠ 0 ∨ nfb ≠ 0)) := by
  have hslot : 2 ≤ slot.toNat ↔ ¬slot &&& 2#2 = 0#2 := by revert slot; decide
  have hform : form = 0#1 ↔ ¬form = 1#1 := by revert form; decide
  have hsign : sign = 0#1 ↔ ¬sign = 1#1 := by revert sign; decide
  have hb : b = 0#1 ↔ ¬b = 1#1 := by revert b; decide
  have hkind : kind = 0 ∨ kind = 1 ∨ kind = 2 ∨ kind = 3 ∨ kind = 4 ∨ kind = 5 ∨ kind = 6 ∨ kind = 7 := by
    revert kind; decide
  have hrows : rowsOf 3 0 = (opcodeTable.drop 12).take 11 := by decide
  rw [reserved_iff, hslot, hrows]
  simp only [opcodeTable, lowFieldsMatch, List.drop, List.take, List.forall_mem_cons, List.not_mem_nil]
  simp [and_full_1, and_full_2, and_full_3, and_full_8, hform, hsign, hb]
  obtain rfl | rfl | rfl | rfl | rfl | rfl | rfl | rfl := hkind
  all_goals
    clear hslot hform hsign hb hrows
    simp
  case inl | inr.inl | inr.inr.inl | inr.inr.inr.inl | inr.inr.inr.inr.inl | inr.inr.inr.inr.inr.inl => tauto

/-- Device 1: five foreign commands, whatever their other fields. -/
theorem reserved_acq_iff :
    findOpcode (headerWord 1 cmd slot kind form sign b nff nfb) = none ↔ 5 ≤ cmd.toNat := by
  have hcmd : (5 ≤ cmd.toNat ∧ rowsOf 1 cmd = []) ∨ cmd = 0 ∨ cmd = 1 ∨ cmd = 2 ∨ cmd = 3 ∨ cmd = 4 := by
    revert cmd; decide
  obtain ⟨hbig, hrows⟩ | rfl | rfl | rfl | rfl | rfl := hcmd
  case inl => exact iff_of_true (reserved_of_no_rows _ _ _ _ _ _ _ _ _ hrows) hbig
  all_goals simp [reserved_iff, rowsOf, opcodeTable, lowFieldsMatch]

/-- Device 2: five foreign commands, and two that fix every field but the B of the second. -/
theorem reserved_act_iff :
    findOpcode (headerWord 2 cmd slot kind form sign b nff nfb) = none ↔
      7 ≤ cmd.toNat ∨ ((cmd = 0 ∨ cmd = 3) ∧
        (slot ≠ 0 ∨ kind ≠ 0 ∨ form ≠ 0 ∨ sign ≠ 0 ∨ nff ≠ 0 ∨ nfb ≠ 0 ∨ (cmd = 0 ∧ b = 1))) := by
  have hb : b = 0#1 ↔ ¬b = 1#1 := by revert b; decide
  have hcmd : (7 ≤ cmd.toNat ∧ rowsOf 2 cmd = []) ∨ cmd = 0 ∨ cmd = 1 ∨ cmd = 2 ∨ cmd = 3 ∨ cmd = 4 ∨ cmd = 5 ∨
      cmd = 6 := by
    revert cmd; decide
  obtain ⟨hbig, hrows⟩ | rfl | rfl | rfl | rfl | rfl | rfl | rfl := hcmd
  case inl => exact iff_of_true (reserved_of_no_rows _ _ _ _ _ _ _ _ _ hrows) (.inl hbig)
  all_goals
    simp [reserved_iff, rowsOf, opcodeTable, lowFieldsMatch, and_full_1, and_full_2, and_full_3, and_full_8, hb]
  all_goals
    clear hb
    tauto

/-- Device 3, the other commands: five of them, which fix every field but the SLOT of the RESET command and the B of three. -/
theorem reserved_lock_iff (hne : cmd ≠ 0) :
    findOpcode (headerWord 3 cmd slot kind form sign b nff nfb) = none ↔
      6 ≤ cmd.toNat ∨ (1 ≤ cmd.toNat ∧ cmd.toNat ≤ 5 ∧
        (kind ≠ 0 ∨ form ≠ 0 ∨ sign ≠ 0 ∨ nff ≠ 0 ∨ nfb ≠ 0 ∨ (cmd ≠ 2 ∧ slot ≠ 0) ∨
          ((cmd = 2 ∨ cmd = 4) ∧ b = 1))) := by
  have hb : b = 0#1 ↔ ¬b = 1#1 := by revert b; decide
  have hcmd : (6 ≤ cmd.toNat ∧ rowsOf 3 cmd = []) ∨ cmd = 1 ∨ cmd = 2 ∨ cmd = 3 ∨ cmd = 4 ∨ cmd = 5 := by
    revert cmd; decide
  obtain ⟨hbig, hrows⟩ | rfl | rfl | rfl | rfl | rfl := hcmd
  case inl => exact iff_of_true (reserved_of_no_rows _ _ _ _ _ _ _ _ _ hrows) (.inl hbig)
  all_goals
    simp [reserved_iff, rowsOf, opcodeTable, lowFieldsMatch, and_full_1, and_full_2, and_full_3, and_full_8, hb]
  all_goals
    clear hb hne
    tauto

end Reserved

/-- Settles O4: the conditions of R87 are those of the three devices that have rows; executing what matches no row is the
rejection of the decode error. -/
theorem reservedHeaders : Obligations.ReservedHeaders := by
  intro dev cmd slot kind form sign b nff nfb
  refine ⟨?conditions, fun hrow pay s => ?answer⟩
  case answer => exact execMessage_of_decode_error (decode_badCommand hrow) s
  case conditions =>
    have hdev : ((dev = 0 ∨ 4 ≤ dev.toNat) ∧ ∀ c, rowsOf dev c = []) ∨ dev = 1 ∨ dev = 2 ∨ dev = 3 := by
      revert dev; decide
    obtain ⟨hother, hrows⟩ | rfl | rfl | rfl := hdev
    · exact iff_of_true (reserved_of_no_rows _ _ _ _ _ _ _ _ _ (hrows cmd)) (.inl hother)
    · rw [reserved_acq_iff]
      simp
    · rw [reserved_act_iff]
      simp
    · by_cases hcmd : cmd = 0
      · subst hcmd
        rw [reserved_filt_iff]
        simp
      · rw [reserved_lock_iff _ _ _ _ _ _ _ _ hcmd]
        simp [show ¬cmd = 0#4 from hcmd]

/-- Settles O6: each of the written-out words is looked up in the opcode map, and its fields are read. -/
theorem wordsDecode : Obligations.WordsDecode := by
  refine ⟨?_, ?_, ?_, ?_, ?_, ?_, ?_, ?reset, ?_, ?_, ?lockB1, ?actEn, ?acqDevices, ?tick⟩
  case reset | lockB1 | actEn | acqDevices => rfl
  case tick => exact decodeTick_record true 2 3 4
  all_goals decide

end Sys2Proof.Proofs

/-!
PROOFS. What a command can do, said once for all of them, and the rules over all commands that follow from it
(spec/44_commands.md R200, R202 to R216, R231; spec/60_exceptions.md R240, R248; spec/70_reset_and_hazards.md R283).
-/

namespace Sys2Proof.Proofs

open Sys2Proof Sys2Proof.Machine

/- One theorem after the other, as in the tests: side by side each takes a thread, and its stack. -/
set_option Elab.async false

/-! ### What an accepted command has written -/

/-- The state that a command leaves before its response 0, with the checks that it has passed (R202 to R216, R220, R221, R224);
tied to the model by `exec_command_cases`. -/
inductive CommandWrites (s : State) : Instr → State → Prop
  | nothing (i : Instr) : CommandWrites s i s
  | manual (v : NUM) : CommandWrites s (.actFreq v) { s with manual := v }
  | actEn (b : Bool) : CommandWrites s (.actEn b) { s with actEn := b }
  | setpoint (v : NUM) : CommandWrites s (.sp v) { s with sp := v }
  | ctrlSlot (i : Instr) (slot : CtrlSel) (kind : CtrlKind) (sign : Sign) {params : FilterParams}
      (hfit : paramsFit s.sizes.tapsMax params = true) :
      CommandWrites s i
        (setCtrlSlot s slot (cfApply s.sizes.tapsMax (ctrlSlot s slot) kind sign params))
  | auxSlot (i : Instr) {ff fb : List NUM} (hfit : vectorsFit s.sizes.tapsMax ff fb = true) :
      CommandWrites s i (setAux s (auxApply s.sizes.tapsMax s.aux ff fb))
  | toggle {b : Bool} (haux : b = true → s.aux.valid = true) : CommandWrites s (.lpApply b) { s with lpReq := b }
  | histories (sel : ResetSel) (p : NUM) :
      CommandWrites s (.reset sel p)
        { s with
          freq := resetIf s.sizes.tapsMax (selectsFreq sel) s.freq p
          phase := resetIf s.sizes.tapsMax (selectsPhase sel) s.phase p
          aux := resetAuxIf s.sizes.tapsMax (selectsAux sel) s.aux p }
  | disengage : CommandWrites s .lockB0 (disengage s)
  | engage (hlock : s.lockState = .unlocked) (hfreq : s.freq.valid = true)
      (hphase : s.tgt = .phase → s.phase.valid = true) (hact : s.actEn = true) : CommandWrites s .lockB1 (engage s)
  | targetPhase (hphase : s.lockState ≠ .unlocked → s.phase.valid = true) :
      CommandWrites s .modeB1 { s with tgt := .phase }
  | targetFrequency (hlock : s.lockState ≠ .phaseLocked) :
      CommandWrites s .modeB0 { s with tgt := .frequency, cnt := 0 }
  | leavePhase (hlock : s.lockState = .phaseLocked) (hfreq : s.freq.valid = true) :
      CommandWrites s .modeB0 (fallBack { s with tgt := .frequency, cnt := 0 })

/-- What a command answers: it rejects with an error, or it accepts what it has written. -/
def CommandAnswers (i : Instr) (s t : State) : Prop :=
  (∃ e, e ≠ .ok ∧ t = reject s e) ∨ ∃ w, CommandWrites s i w ∧ t = accept w

theorem CommandAnswers.of_reject {i : Instr} {s : State} {e : Status} (he : e ≠ .ok := by decide) :
    CommandAnswers i s (reject s e) := .inl ⟨e, he, rfl⟩

theorem CommandAnswers.of_writes {i : Instr} {s w : State} (h : CommandWrites s i w) : CommandAnswers i s (accept w) :=
  .inr ⟨w, h, rfl⟩

/-! ### The guards of the lock commands, as conditions on the state -/

theorem isLocked_iff {s : State} : isLocked s = true ↔ s.lockState ≠ .unlocked := by
  simp [isLocked]

theorem isPhaseLocked_iff {s : State} : isPhaseLocked s = true ↔ s.lockState = .phaseLocked := by
  simp [isPhaseLocked]

/-- The synthesizer's errors are errors. -/
theorem synDesign_error_ne_ok {taps : Nat} {d : DesignParams} {e : Status} (h : synDesign taps d = .error e) :
    e ≠ .ok := by
  have hvalidate (e' : Status) (hv : synValidate d = some e') : e' ≠ .ok := by
    unfold synValidate at hv
    split_ifs at hv <;> cases hv <;> decide
  unfold synDesign at h
  split at h
  case h_1 e' hv => cases h; exact hvalidate e hv
  case h_2 =>
    split at h
    case h_1 => cases h; decide
    case h_2 =>
      split at h <;> cases h
      decide

/-! ### Inversion -/

theorem filtLoadLoop_answers {kind : CtrlKind} {slot : CtrlSel} {sign : Sign} {p : LoopParams} {ff fb : List NUM}
    {s t : State} (i : Instr) (h : filtLoadLoop kind slot sign p ff fb s = .next t) : CommandAnswers i s t := by
  unfold filtLoadLoop at h
  split at h <;> cases h
  case isTrue hchecks =>
    obtain ⟨hfit, hbounds⟩ := Bool.and_eq_true_iff.1 hchecks
    exact .of_writes (.ctrlSlot i slot kind sign (by simp [paramsFit, hfit, hbounds]))
  case isFalse => exact .of_reject

theorem filtDesignLoop_answers {kind : CtrlKind} {slot : CtrlSel} {sign : Sign} {p : LoopParams} {d : DesignParams}
    {s t : State} (i : Instr) (h : filtDesignLoop kind slot sign p d s = .next t) : CommandAnswers i s t := by
  unfold filtDesignLoop at h
  split at h
  case isTrue hbounds =>
    split at h <;> cases h
    case h_1 e hd => exact .of_reject (synDesign_error_ne_ok hd)
    case h_2 v hd => exact .of_writes (.ctrlSlot i slot kind sign (by simp [paramsFit, synDesign_fits hd, hbounds]))
  case isFalse => cases h; exact .of_reject

theorem lockB1_answers {s t : State} (h : execLockB1 s = .next t) : CommandAnswers .lockB1 s t := by
  unfold execLockB1 at h
  split at h
  case isTrue => cases h; exact .of_writes (.nothing _)
  split at h
  case isTrue => cases h; exact .of_reject
  split at h
  case isTrue => cases h; exact .of_reject
  split at h
  case isTrue => cases h; exact .of_reject
  next hlock hfreq hphase hact =>
    cases h
    exact .of_writes (.engage (by simpa [isLocked] using hlock) (by simpa using hfreq) (by simpa using hphase)
      (by simpa using hact))

theorem modeB0_answers {s t : State} (h : execModeB0 s = .next t) : CommandAnswers .modeB0 s t := by
  unfold execModeB0 at h
  dsimp only at h
  split at h
  case isTrue hlock =>
    split at h <;> cases h
    case isTrue hfreq => exact .of_writes (.leavePhase (isPhaseLocked_iff.1 hlock) hfreq)
  case isFalse hlock =>
    cases h
    exact .of_writes (.targetFrequency (mt isPhaseLocked_iff.2 hlock))

/-- Every command that completes rejects, or accepts one of the writes above. -/
theorem exec_command_cases {i : Instr} {s t : State} (hi : isCommand i = true) (h : exec i s = .next t) :
    CommandAnswers i s t := by
  cases i <;> simp only [exec] at h
  case tick => cases hi
  case acqRate | acqChannels | acqConnect | acqDisconnect | acqDevices | actAmp | actPhase | actConnect |
      actDisconnect | actDevices =>
    cases h
    exact .of_writes (.nothing _)
  case actFreq v => cases h; exact .of_writes (.manual v)
  case actEn b => cases h; exact .of_writes (.actEn b)
  case sp v => cases h; exact .of_writes (.setpoint v)
  case filtLoadI1LP1 | filtLoadI1LP2 | filtLoadI2LP1 | filtLoadI2LP2 => exact filtLoadLoop_answers _ h
  case filtDesignI1LP1 | filtDesignI1LP2 | filtDesignI2LP1 | filtDesignI2LP2 => exact filtDesignLoop_answers _ h
  case filtLoadPid slot sign p =>
    unfold execFiltLoadPid at h
    split at h <;> cases h
    case isTrue hbounds => exact .of_writes (.ctrlSlot _ slot .pid sign hbounds)
    case isFalse => exact .of_reject
  case filtLoadLP =>
    unfold execFiltLoadLP at h
    split at h <;> cases h
    case isTrue hfit => exact .of_writes (.auxSlot _ hfit)
    case isFalse => exact .of_reject
  case filtDesignLP =>
    unfold execFiltDesignLP at h
    split at h <;> cases h
    case h_1 e hd => exact .of_reject (synDesign_error_ne_ok hd)
    case h_2 v hd => exact .of_writes (.auxSlot _ (synDesign_fits hd))
  case lpApply b =>
    unfold execLpApply at h
    split at h <;> cases h
    case isTrue => exact .of_reject
    case isFalse haux => exact .of_writes (.toggle (by simpa using haux))
  case reset sel p => cases h; exact .of_writes (.histories sel p)
  case lockB0 => cases h; exact .of_writes .disengage
  case lockB1 => exact lockB1_answers h
  case modeB0 => exact modeB0_answers h
  case modeB1 =>
    unfold execModeB1 at h
    split at h <;> cases h
    case isTrue => exact .of_reject
    case isFalse hphase => exact .of_writes (.targetPhase (by simpa [isLocked] using hphase))

/-! ### What no command does -/

/-- The rule over the writes, from the writes to the whole command: a property of states that responses do not touch. -/
theorem exec_command_induction {P : State → Prop} {i : Instr} {s t : State} (hi : isCommand i = true)
    (h : exec i s = .next t) (hout : ∀ u o, P u → P (emit u o)) (hs : P s) (hw : ∀ w, CommandWrites s i w → P w) :
    P t := by
  obtain ⟨e, -, rfl⟩ | ⟨w, hwrites, rfl⟩ := exec_command_cases hi h
  · exact hout s _ hs
  · exact hout w _ (hw w hwrites)

/-- Settles O47: none of the writes touches an element that the sample step alone writes. -/
theorem commandsLeaveSampleState : Obligations.CommandsLeaveSampleState := by
  intro i s t hi h
  refine exec_command_induction (P := fun t => t.pv = s.pv ∧ t.seq = s.seq ∧ t.lpEff = s.lpEff ∧
    t.lpPrimed = s.lpPrimed ∧ t.cq = s.cq) hi h (fun u o hu => hu) ⟨rfl, rfl, rfl, rfl, rfl⟩ fun w hw => ?_
  cases hw
  case ctrlSlot => simp
  all_goals exact ⟨rfl, rfl, rfl, rfl, rfl⟩

/-- The outputs of a command: its response is the last, and only disengage puts out anything before it. -/
theorem CommandAnswers.out_eq {i : Instr} {s t : State} (h : CommandAnswers i s t) :
    ∃ before e, t.out = s.out ++ before ++ [.rsp e] ∧ (∀ o ∈ before, isResponse o = false ∧ isSample o = false) ∧
      (e ≠ .ok → t = reject s e) := by
  obtain ⟨e, he, rfl⟩ | ⟨w, hw, rfl⟩ := h
  · exact ⟨[], e, by simp [reject_eq], by simp, fun _ => rfl⟩
  · have hwout : ∃ before, w.out = s.out ++ before ∧ ∀ o ∈ before, isResponse o = false ∧ isSample o = false := by
      cases hw
      case disengage =>
        exact ⟨[.actDispatch s.manual, .evNotLocked], by simp [Machine.disengage], by simp [isResponse, isSample]⟩
      all_goals exact ⟨[], by simp [Machine.engage, fallBack, seedSlot_eq], by simp⟩
    obtain ⟨before, hwout, hbefore⟩ := hwout
    exact ⟨before, .ok, by simp [accept_eq, hwout], hbefore, fun hne => absurd rfl hne⟩

/-- Settles O46: what a command puts out ends with its response, and only a rejection answers another status than 0. -/
theorem rejectionIsPrecise : Obligations.RejectionIsPrecise := fun _ _ _ hi h => (exec_command_cases hi h).out_eq

end Sys2Proof.Proofs

/-!
PROOFS. From one command to the drain phase and to a whole TICK: the configuration, the VALID bits, the responses
(spec/43_lock_controller.md R170, R171; spec/44_commands.md R200; spec/60_exceptions.md R251).
-/

namespace Sys2Proof.Proofs

open Sys2Proof Sys2Proof.Machine

/- One theorem after the other, as in the tests: side by side each takes a thread, and its stack. -/
set_option Elab.async false

/-! ### The induction over the drain phase -/

/-- A message is rejected, or it is a command with its answer (R200, R201). -/
theorem execMessage_cases {m : Message} {s t : State} (h : execMessage m s = .next t) : ∃ i, CommandAnswers i s t := by
  cases hdec : decodeMessage m with
  | error e =>
    rw [execMessage_of_decode_error hdec] at h
    cases h
    exact ⟨.lockB0, .of_reject (by cases e <;> decide)⟩
  | ok i =>
    rw [execMessage_of_decode_ok hdec] at h
    exact ⟨i, exec_command_cases (decode_isCommand hdec) h⟩

/-- A property that responses, the removal of messages and the writes of the commands keep. -/
structure KeptByCommands (P : State → Prop) : Prop where
  emits : ∀ {s : State} (o : Output), P s → P (emit s o)
  queue : ∀ {s : State} (q : List Message), q.length ≤ s.cq.length → P s → P { s with cq := q }
  writes : ∀ {s w : State} {i : Instr}, P s → CommandWrites s i w → P w

theorem KeptByCommands.answer {P : State → Prop} (hP : KeptByCommands P) {i : Instr} {s t : State} (hs : P s)
    (h : CommandAnswers i s t) : P t := by
  obtain ⟨e, -, rfl⟩ | ⟨w, hw, rfl⟩ := h
  · exact hP.emits _ hs
  · exact hP.emits _ (hP.writes hs hw)

theorem KeptByCommands.message {P : State → Prop} (hP : KeptByCommands P) {m : Message} {s t : State} (hs : P s)
    (h : execMessage m s = .next t) : P t := by
  obtain ⟨i, hi⟩ := execMessage_cases h
  exact hP.answer hs hi

/-- Such a property holds after the drain phase, if it held before. -/
theorem KeptByCommands.drain {P : State → Prop} (hP : KeptByCommands P) (ms : List Message) {s t : State} (hs : P s)
    (hq : ms.length ≤ s.cq.length) (h : drain ms s = .next t) : P t := by
  induction ms generalizing s with
  | nil =>
    cases h
    exact hP.queue [] hq hs
  | cons m rest ih =>
    rw [Machine.drain] at h
    split at h
    case h_1 u hu =>
      have hrest : P { s with cq := rest } := hP.queue rest (Nat.le_of_succ_le hq) hs
      have hcq : u.cq = rest := (execMessage_effect hu).cq
      exact ih (hP.message hrest hu) (by rw [hcq]) h
    all_goals cases h

/-- And after a whole TICK, if the sample step keeps it too. -/
theorem KeptByCommands.tick {P : State → Prop} (hP : KeptByCommands P)
    (hsample : ∀ {s : State} (ch1 ch2 avg : NUM), slotsReady s = true → P s → P (sampleStep s ch1 ch2 avg))
    {s t : State} {isNew : Bool} {ch1 ch2 avg : NUM} (hs : P s) (h : exec (.tick isNew ch1 ch2 avg) s = .next t) :
    P t := by
  obtain ⟨u, hu, ⟨-, rfl⟩ | ⟨-, hready, rfl⟩⟩ := exec_tick_cases h
  · exact hP.drain s.cq hs le_rfl hu
  · exact hsample ch1 ch2 avg hready (hP.drain s.cq hs le_rfl hu)

/-- And after any instruction. -/
theorem KeptByCommands.exec {P : State → Prop} (hP : KeptByCommands P)
    (hsample : ∀ {s : State} (ch1 ch2 avg : NUM), slotsReady s = true → P s → P (sampleStep s ch1 ch2 avg))
    {s t : State} {i : Instr} (hs : P s) (h : exec i s = .next t) : P t := by
  cases hi : isCommand i with
  | true => exact hP.answer hs (exec_command_cases hi h)
  | false =>
    cases i <;> cases hi
    exact hP.tick hsample hs h

/-! ### The configuration and the VALID bits -/

/-- Settles O44: the laws of the drain phase and of the sample step name these three elements among those that stay. -/
theorem configurationImmutable : Obligations.ConfigurationImmutable := by
  intro i s t h
  cases hi : isCommand i with
  | true =>
    have he := exec_command_effect hi h
    exact ⟨he.cfg, he.sizes, he.inbox⟩
  | false =>
    cases i <;> cases hi
    case tick.refl isNew ch1 ch2 avg =>
      obtain ⟨u, hu, hsample⟩ := exec_tick_cases h
      obtain ⟨-, hsizes, hcfg, hinbox, -⟩ := drain_effect _ _ _ hu
      obtain ⟨-, rfl⟩ | ⟨-, -, rfl⟩ := hsample
      · exact ⟨hcfg, hsizes, hinbox⟩
      · obtain ⟨hsizes', hcfg', hinbox', -⟩ := sampleStep_frame u ch1 ch2 avg
        exact ⟨hcfg'.trans hcfg, hsizes'.trans hsizes, hinbox'.trans hinbox⟩

/-- The slots that are valid in `s` are valid in `t`; reflexive and transitive. -/
def ValidStays (s t : State) : Prop :=
  (s.freq.valid = true → t.freq.valid = true) ∧ (s.phase.valid = true → t.phase.valid = true) ∧
    (s.aux.valid = true → t.aux.valid = true)

theorem ValidStays.trans {s t u : State} (h : ValidStays s t) (h' : ValidStays t u) : ValidStays s u :=
  ⟨h'.1 ∘ h.1, h'.2.1 ∘ h.2.1, h'.2.2 ∘ h.2.2⟩

/-- A write to a slot constructs it or keeps its VALID bit (R135 to R138, R184, R211). -/
theorem CommandWrites.validStays {s w : State} {i : Instr} (h : CommandWrites s i w) : ValidStays s w := by
  cases h
  case ctrlSlot slot kind sign params hfit =>
    cases slot with
    | freq => exact ⟨fun hv => cfApply_valid _ _ _ _ _ hv, id, id⟩
    | phase => exact ⟨id, fun hv => cfApply_valid _ _ _ _ _ hv, id⟩
  case auxSlot => exact ⟨id, id, fun _ => auxApply_valid ..⟩
  case histories => simp [ValidStays, resetIf_valid, resetAuxIf_valid]
  case engage | leavePhase => simp [ValidStays, Machine.engage, fallBack, seedSlot_eq]
  all_goals exact ⟨id, id, id⟩

theorem sampleStep_validStays (s : State) (ch1 ch2 avg : NUM) : ValidStays s (sampleStep s ch1 ch2 avg) := by
  obtain ⟨-, -, -, -, -, -, hfreq, hphase, haux, -⟩ := sampleStep_frame s ch1 ch2 avg
  exact ⟨fun h => hfreq.trans h, fun h => hphase.trans h, fun h => haux.trans h⟩

/-- Settles O45: every write of a command and the sample step keep the VALID bits that are set. -/
theorem validNeverCleared : Obligations.ValidNeverCleared := by
  intro i s t h
  have hkept : KeptByCommands (ValidStays s) :=
    ⟨fun _ hs => hs, fun _ _ hs => hs, fun hs hw => hs.trans hw.validStays⟩
  exact hkept.exec (fun ch1 ch2 avg _ hs => hs.trans (sampleStep_validStays _ ch1 ch2 avg)) ⟨id, id, id⟩ h

/-! ### One response for each message (R67, R72) -/

theorem CommandAnswers.countP_isResponse {i : Instr} {s t : State} (h : CommandAnswers i s t) :
    t.out.countP isResponse = s.out.countP isResponse + 1 := by
  obtain ⟨before, e, hout, hbefore, -⟩ := h.out_eq
  have hnone : before.countP isResponse = 0 := List.countP_eq_zero.2 fun o ho => by simp [hbefore o ho]
  simp [hout, hnone, isResponse]

theorem drain_countP_isResponse (ms : List Message) {s t : State} (h : drain ms s = .next t) :
    t.out.countP isResponse = s.out.countP isResponse + ms.length := by
  induction ms generalizing s with
  | nil => cases h; rfl
  | cons m rest ih =>
    rw [drain] at h
    split at h
    case h_1 u hu =>
      obtain ⟨i, hi⟩ := execMessage_cases hu
      have hone : u.out.countP isResponse = s.out.countP isResponse + 1 := hi.countP_isResponse
      rw [ih h, hone, List.length_cons, Nat.add_assoc, Nat.add_comm 1]
    all_goals cases h

/-- Settles O34: the drain phase answers once for each message and empties the queue; the sample step responds to nothing
and leaves the queue empty. -/
theorem tickResponses : Obligations.TickResponses := by
  intro s t isNew ch1 ch2 avg h
  obtain ⟨u, hu, hsample⟩ := exec_tick_cases h
  obtain ⟨hcq, -, -, -, more, hmore⟩ := drain_effect _ _ _ hu
  have hcount := drain_countP_isResponse _ hu
  obtain ⟨-, rfl⟩ | ⟨-, -, rfl⟩ := hsample
  · exact ⟨hcq, hcount, more, hmore⟩
  · obtain ⟨-, -, -, hcq', -, -, -, -, -, more', hmore', hnone⟩ := sampleStep_frame u ch1 ch2 avg
    refine ⟨hcq'.trans hcq, ?_, more ++ more', by rw [hmore', hmore, List.append_assoc]⟩
    rw [hmore', List.countP_append, hcount, hnone, Nat.add_zero]

end Sys2Proof.Proofs

/-!
PROOFS. A command that is repeated at once does nothing more than answer again (spec/20_memory.md R75;
spec/70_reset_and_hazards.md R283).
-/

namespace Sys2Proof.Proofs

open Sys2Proof Sys2Proof.Machine

/- One theorem after the other, as in the tests: side by side each takes a thread, and its stack. -/
set_option Elab.async false

/-! ### Applying a `filt` to the slot that it has just left -/

@[simp] theorem setCtrlSlot_ctrlSlot (s : State) (slot : CtrlSel) : setCtrlSlot s slot (ctrlSlot s slot) = s := by
  cases slot <;> rfl

@[simp] theorem ctrlSlot_setCtrlSlot (s : State) (slot : CtrlSel) (F : CtrlSlot) :
    ctrlSlot (setCtrlSlot s slot F) slot = F := by
  cases slot <;> rfl

theorem ctrlSlot_emit (s : State) (o : Output) (slot : CtrlSel) : ctrlSlot (emit s o) slot = ctrlSlot s slot := by
  cases slot <;> rfl

theorem filtApply_sizes (s : State) (slot : CtrlSel) (kind : CtrlKind) (sign : Sign) (params : FilterParams) :
    (filtApply s slot kind sign params).sizes = s.sizes := by
  simp [filtApply, accept_eq]

theorem filtApply_filtApply (s : State) (slot : CtrlSel) (kind : CtrlKind) (sign : Sign) (params : FilterParams) :
    filtApply (filtApply s slot kind sign params) slot kind sign params =
      accept (filtApply s slot kind sign params) := by
  have hslot : ctrlSlot (filtApply s slot kind sign params) slot =
      cfApply s.sizes.tapsMax (ctrlSlot s slot) kind sign params := by
    rw [filtApply, accept_eq, ctrlSlot_emit, ctrlSlot_setCtrlSlot]
  have hagain : cfApply s.sizes.tapsMax (ctrlSlot (filtApply s slot kind sign params) slot) kind sign params =
      ctrlSlot (filtApply s slot kind sign params) slot := by
    rw [hslot, cfApply_cfApply]
  rw [filtApply, filtApply_sizes, hagain, setCtrlSlot_ctrlSlot]

theorem auxLoad_auxLoad (s : State) (ff fb : List NUM) :
    auxLoad (auxLoad s ff fb) ff fb = accept (auxLoad s ff fb) := by
  have hagain : auxApply s.sizes.tapsMax (auxLoad s ff fb).aux ff fb = (auxLoad s ff fb).aux := auxApply_auxApply ..
  exact congrArg (fun A => accept (setAux (auxLoad s ff fb) A)) hagain

theorem resetIf_resetIf (taps : Nat) (selected : Bool) (F : CtrlSlot) (p : NUM) :
    resetIf taps selected (resetIf taps selected F p) p = resetIf taps selected F p := by
  cases h : selected && F.valid <;> simp [resetIf, h, cfReset]

theorem resetAuxIf_resetAuxIf (taps : Nat) (selected : Bool) (A : AuxSlot) (p : NUM) :
    resetAuxIf taps selected (resetAuxIf taps selected A p) p = resetAuxIf taps selected A p := by
  cases h : selected && A.valid <;> simp [resetAuxIf, h]

/-! ### A second execution -/

/-- On `t` the meaning completes and changes nothing but the outputs. -/
def OnlyAnswers (meaning : State → Result) (t : State) : Prop :=
  ∃ u, meaning t = .next u ∧ { u with out := t.out } = t

theorem OnlyAnswers.of_accept {meaning : State → Result} {t : State} (h : meaning t = .next (accept t)) :
    OnlyAnswers meaning t := ⟨accept t, h, rfl⟩

theorem OnlyAnswers.of_reject {meaning : State → Result} {t : State} {e : Status}
    (h : meaning t = .next (reject t e)) : OnlyAnswers meaning t := ⟨reject t e, h, rfl⟩

section Twice

variable {s t : State} {kind : CtrlKind} {slot : CtrlSel} {sign : Sign} {p : LoopParams}

theorem filtLoadLoop_twice {ff fb : List NUM} (h : filtLoadLoop kind slot sign p ff fb s = .next t) :
    OnlyAnswers (filtLoadLoop kind slot sign p ff fb) t := by
  unfold filtLoadLoop at h
  split at h <;> cases h
  case isTrue hchecks =>
    refine .of_accept ?_
    rw [filtLoadLoop, filtApply_sizes, if_pos hchecks, filtApply_filtApply]
  case isFalse hchecks => exact .of_reject (if_neg hchecks)

theorem filtDesignLoop_twice {d : DesignParams} (h : filtDesignLoop kind slot sign p d s = .next t) :
    OnlyAnswers (filtDesignLoop kind slot sign p d) t := by
  unfold filtDesignLoop at h
  split at h
  case isTrue hbounds =>
    split at h <;> cases h
    case h_1 e hd => exact .of_reject (filtDesignLoop_error hbounds hd)
    case h_2 v hd =>
      refine .of_accept ?_
      rw [filtDesignLoop_ok hbounds (by rw [filtApply_sizes]; exact hd), filtApply_filtApply]
  case isFalse hbounds => cases h; exact .of_reject (if_neg hbounds)

theorem filtLoadPid_twice {q : PidParams} (h : execFiltLoadPid slot sign q s = .next t) :
    OnlyAnswers (execFiltLoadPid slot sign q) t := by
  unfold execFiltLoadPid at h
  split at h <;> cases h
  case isTrue hbounds => exact .of_accept (by rw [execFiltLoadPid, if_pos hbounds, filtApply_filtApply])
  case isFalse hbounds => exact .of_reject (if_neg hbounds)

theorem filtLoadLP_twice {ff fb : List NUM} (h : execFiltLoadLP ff fb s = .next t) :
    OnlyAnswers (execFiltLoadLP ff fb) t := by
  unfold execFiltLoadLP at h
  split at h <;> cases h
  case isTrue hfit => exact .of_accept ((if_pos hfit).trans (congrArg _ (auxLoad_auxLoad s ff fb)))
  case isFalse hfit => exact .of_reject (if_neg hfit)

theorem filtDesignLP_twice {d : DesignParams} (h : execFiltDesignLP d s = .next t) :
    OnlyAnswers (execFiltDesignLP d) t := by
  unfold execFiltDesignLP at h
  split at h <;> cases h
  case h_1 e hd => exact .of_reject (execFiltDesignLP_error hd)
  case h_2 v hd => 
    have hagain : execFiltDesignLP d (auxLoad s v.1 v.2) = .next (auxLoad (auxLoad s v.1 v.2) v.1 v.2) :=
      execFiltDesignLP_ok hd
    exact .of_accept (by rw [hagain, auxLoad_auxLoad])

theorem lpApply_twice {b : Bool} (h : execLpApply b s = .next t) : OnlyAnswers (execLpApply b) t := by
  unfold execLpApply at h
  split at h <;> cases h
  case isTrue haux => exact .of_reject (if_pos haux)
  case isFalse haux => exact .of_accept (if_neg haux)

theorem reset_twice {sel : ResetSel} {v : NUM} (h : execReset sel v s = .next t) : OnlyAnswers (execReset sel v) t := by
  cases h
  refine .of_accept ?_
  simp [execReset, accept_eq, emit, resetIf_resetIf, resetAuxIf_resetAuxIf]

/-- The engaged engine answers a second engage without effect (R212). -/
theorem lockB1_twice (h : execLockB1 s = .next t) : OnlyAnswers execLockB1 t := by
  unfold execLockB1 at h
  split at h
  case isTrue hlock => cases h; exact .of_accept (if_pos hlock)
  case isFalse hlock =>
  split at h
  case isTrue hfreq => cases h; exact .of_reject ((if_neg hlock).trans (if_pos hfreq))
  case isFalse hfreq =>
  split at h
  case isTrue hphase => cases h; exact .of_reject ((if_neg hlock).trans ((if_neg hfreq).trans (if_pos hphase)))
  case isFalse hphase =>
  split at h
  case isTrue hact =>
    cases h
    exact .of_reject ((if_neg hlock).trans ((if_neg hfreq).trans ((if_neg hphase).trans (if_pos hact))))
  case isFalse => cases h; exact .of_accept (if_pos rfl)

/-- After MODE B=0 the engine is in Frequency mode with target Frequency, where the command writes what it finds (R216). -/
theorem modeB0_twice (h : execModeB0 s = .next t) : OnlyAnswers execModeB0 t := by
  unfold execModeB0 at h
  dsimp only at h
  split at h
  case isTrue =>
    split at h <;> cases h
    exact .of_accept rfl
  case isFalse hlock => cases h; exact .of_accept (if_neg hlock)

theorem modeB1_twice (h : execModeB1 s = .next t) : OnlyAnswers execModeB1 t := by
  unfold execModeB1 at h
  split at h <;> cases h
  case isTrue hphase => exact .of_reject (if_pos hphase)
  case isFalse hphase => exact .of_accept (if_neg hphase)

end Twice

/-- Settles O48: a rejected command finds what it was rejected for; an accepted one finds its writes done, and only disengage
puts out more than the response. -/
theorem duplicateLeavesState : Obligations.DuplicateLeavesState := by
  intro i s t hi h
  cases i <;> simp only [exec] at h
  case tick => cases hi
  case acqRate | acqChannels | acqConnect | acqDisconnect | acqDevices | actAmp | actPhase | actConnect |
      actDisconnect | actDevices | actFreq | actEn | sp | lockB0 =>
    cases h
    exact ⟨_, rfl, rfl⟩
  case filtLoadPid => exact filtLoadPid_twice h
  case filtLoadI1LP1 | filtLoadI1LP2 | filtLoadI2LP1 | filtLoadI2LP2 => exact filtLoadLoop_twice h
  case filtDesignI1LP1 | filtDesignI1LP2 | filtDesignI2LP1 | filtDesignI2LP2 => exact filtDesignLoop_twice h
  case filtLoadLP => exact filtLoadLP_twice h
  case filtDesignLP => exact filtDesignLP_twice h
  case lpApply => exact lpApply_twice h
  case reset => exact reset_twice h
  case lockB1 => exact lockB1_twice h
  case modeB0 => exact modeB0_twice h
  case modeB1 => exact modeB1_twice h

end Sys2Proof.Proofs

/-!
PROOFS. What each command writes, whole next state by whole next state (spec/44_commands.md R202 to R230).
-/

namespace Sys2Proof.Proofs

open Sys2Proof Sys2Proof.Machine

/- One theorem after the other, as in the tests: side by side each takes a thread, and its stack. -/
set_option Elab.async false

/-! ### Registers and toggles (R210, R214, R215, R220, R221) -/

/-- Settles O15: the rule of each of the three is one assignment and the acceptance. -/
theorem registerCommandsWrite : Obligations.RegisterCommandsWrite := fun _ _ _ => ⟨rfl, rfl, rfl⟩

/-- Settles O16: the guard of LPAPPLY is the condition of the first clause. -/
theorem lpApplyWrites : Obligations.LpApplyWrites := by
  intro s b
  have hguard : (b && !s.aux.valid) = true ↔ b = true ∧ s.aux.valid = false := by simp
  exact ⟨fun h => if_pos (hguard.2 h), fun h => if_neg (mt hguard.1 h)⟩

/-- Settles O20: the guard of MODE B=1 is the condition of the first clause. -/
theorem modePhaseWrites : Obligations.ModePhaseWrites := by
  intro s
  have hguard : (isLocked s && !s.phase.valid) = true ↔ s.lockState ≠ .unlocked ∧ s.phase.valid = false := by
    simp [isLocked]
  exact ⟨fun h => if_pos (hguard.2 h), fun h => if_neg (mt hguard.1 h)⟩

/-! ### The RESET command (R133, R211) -/

theorem selectsFreq_iff (sel : ResetSel) : selectsFreq sel = true ↔ sel = .freq ∨ sel = .all := by
  cases sel <;> decide

theorem selectsPhase_iff (sel : ResetSel) : selectsPhase sel = true ↔ sel = .phase ∨ sel = .all := by
  cases sel <;> decide

theorem selectsAux_iff (sel : ResetSel) : selectsAux sel = true ↔ sel = .aux ∨ sel = .all := by
  cases sel <;> decide

/-- Settles O17: each slot is reset under the condition that it is selected and valid. -/
theorem resetCommandWrites : Obligations.ResetCommandWrites := by
  intro s sel p cleared
  simp only [exec, execReset, resetIf, resetAuxIf, Bool.and_eq_true, selectsFreq_iff, selectsPhase_iff, selectsAux_iff]
  rfl

/-! ### Engage, disengage, MODE B=0 (R212, R213, R216) -/

/-- A seeded slot, element by element: the value goes to the second accumulator of a double-integrator kind (R131, R184). -/
theorem cfSeed_eq (taps : Nat) (F : CtrlSlot) (v : NUM) :
    cfSeed taps F v =
      { F with
        i := if F.kind = .i2lp1 ∨ F.kind = .i2lp2 then NUM.zero else v
        ii := if F.kind = .i2lp1 ∨ F.kind = .i2lp2 then v else NUM.zero
        eprev := NUM.zero, dprev := NUM.zero, lastoutValid := false
        h1 := ⟨List.replicate taps NUM.zero, List.replicate taps NUM.zero⟩
        h2 := ⟨List.replicate taps NUM.zero, List.replicate taps NUM.zero⟩ } := by
  have hkind : (cfReset taps F NUM.zero).kind = F.kind := rfl
  by_cases hdouble : F.kind = .i2lp1 ∨ F.kind = .i2lp2
  · rw [if_pos hdouble, if_pos hdouble, cfSeed, cfSetoff, hkind, if_pos ((twoIntegrators_iff _).2 hdouble)]
    rfl
  · rw [if_neg hdouble, if_neg hdouble, cfSeed, cfSetoff, hkind, if_neg (mt (twoIntegrators_iff _).1 hdouble)]
    rfl

/-- Settles O19: disengage asks for nothing. -/
theorem disengageWrites : Obligations.DisengageWrites := by
  intro s
  simp [exec, execLockB0, disengage, accept, dispatchAct, setCtrl, emit]

/-- Settles O18: each clause meets one check of LOCK B=1 and misses those before it; engagement seeds the frequency slot. -/
theorem engageWrites : Obligations.EngageWrites := by
  intro s z double
  have hlock : isLocked s = true ↔ s.lockState ≠ .unlocked := isLocked_iff
  refine ⟨fun hl => ?engaged, fun hl hf => ?noFreq, fun hl hf ht hp => ?noPhase, fun hl hf hp ha => ?disabled,
    fun hl hf hp ha => ?engages⟩
  case engaged => exact if_pos (hlock.2 hl)
  all_goals have hunlocked : ¬isLocked s = true := mt hlock.1 (not_not.2 hl)
  case noFreq => simp [exec, execLockB1, hunlocked, hf, reject_eq, emit]
  case noPhase => simp [exec, execLockB1, hunlocked, hf, ht, hp, reject_eq, emit]
  all_goals have htarget : (s.tgt == .phase && !s.phase.valid) = false := by simpa using hp
  case disabled => simp [exec, execLockB1, hunlocked, hf, htarget, ha, reject_eq, emit]
  case engages =>
    have hexec : exec .lockB1 s = .next (accept (engage s)) := by simp [exec, execLockB1, hunlocked, hf, htarget, ha]
    rw [hexec, engage, seedSlot_eq, ctrlSlot_freq, cfSeed_eq]
    rfl

/-- Settles O21: Phase mode is what the command tests; leaving it seeds the frequency slot with the control value. -/
theorem modeFrequencyWrites : Obligations.ModeFrequencyWrites := by
  intro s z double v
  refine ⟨fun hlock => ?stays, fun hlock hfreq => ?leaves⟩
  case stays => exact if_neg (mt isPhaseLocked_iff.1 hlock)
  case leaves =>
    have hmode : isPhaseLocked s = true := isPhaseLocked_iff.2 hlock
    have hexec : exec .modeB0 s = .next (accept (fallBack { s with tgt := .frequency, cnt := 0 })) := by
      simp [exec, execModeB0, hmode, hfreq]
    rw [hexec, fallBack, seedSlot_eq, ctrlSlot_freq, cfSeed_eq]
    rfl

/-! ### The LOAD forms (R202 to R209, R134 to R138) -/

/-- An accepted `filt` to a control slot, with its response put out first. -/
theorem filtApply_eq (s : State) (slot : CtrlSel) (kind : CtrlKind) (sign : Sign) (params : FilterParams) :
    filtApply s slot kind sign params =
      setCtrlSlot { s with out := s.out ++ [.rsp .ok] } slot
        (cfApply s.sizes.tapsMax (ctrlSlot s slot) kind sign params) := by
  cases slot <;> rfl

/-- What a replaced filter passes on: its last output, if it had one (R136). -/
def replacementSeed (F : CtrlSlot) : NUM := if F.valid = true ∧ F.lastoutValid = true then F.lastout else NUM.zero

/-- Construction and replacement in one form: a construction is seeded with the zero that its accumulators hold already. -/
theorem cfApply_of_builds (taps : Nat) {F : CtrlSlot} {kind : CtrlKind} (sign : Sign) (params : FilterParams)
    (hbuilds : F.valid = false ∨ F.kind ≠ kind) :
    cfApply taps F kind sign params =
      { cfConstruct taps F kind sign params with
        i := if kind = .i2lp1 ∨ kind = .i2lp2 then NUM.zero else replacementSeed F
        ii := if kind = .i2lp1 ∨ kind = .i2lp2 then replacementSeed F else NUM.zero } := by
  have happly : cfApply taps F kind sign params =
      if F.valid = true ∧ F.lastoutValid = true then cfSetoff (cfConstruct taps F kind sign params) F.lastout
      else cfConstruct taps F kind sign params := by
    cases hvalid : F.valid with
    | false => simp [cfApply, hvalid]
    | true => simp [cfApply, hvalid, cfReplace, (hbuilds.resolve_left (by simp [hvalid]))]
  rw [happly, replacementSeed]
  split
  case isTrue => cases kind <;> rfl
  case isFalse => cases kind <;> rfl

theorem cfApply_of_mutates (taps : Nat) {F : CtrlSlot} {kind : CtrlKind} (sign : Sign) (params : FilterParams)
    (hvalid : F.valid = true) (hkind : F.kind = kind) :
    cfApply taps F kind sign params = cfMutate F sign params := by
  simp [cfApply, hvalid, hkind]

/-- FILT.LOAD.PID with bounds in order (R203, R204). -/
theorem exec_loadPid {s : State} {p : PidParams} (slot : CtrlSel) (sign : Sign) (hout : fle p.outLo p.outHi = true)
    (hint : fle p.intLo p.intHi = true) :
    exec (.filtLoadPid slot sign p) s =
      .next (setCtrlSlot { s with out := s.out ++ [.rsp .ok] } slot
        (cfApply s.sizes.tapsMax (ctrlSlot s slot) .pid sign (.pid p))) := by
  rw [← filtApply_eq]
  exact if_pos (Bool.and_eq_true_iff.2 ⟨hout, hint⟩)

/-- The lengths of two vectors fit the arrays. -/
theorem vectorsFit_iff {taps : Nat} {ff fb : List NUM} :
    vectorsFit taps ff fb = true ↔ 1 ≤ ff.length ∧ ff.length ≤ taps ∧ 1 ≤ fb.length ∧ fb.length ≤ taps := by
  simp [vectorsFit, lengthFits, and_assoc]

/-- The LOAD forms of the four Loop kinds are one meaning (R205 to R208). -/
theorem exec_loadLoop {s : State} {slot : CtrlSel} {sign : Sign} {p : LoopParams} {ff fb : List NUM}
    {ik : Instr × CtrlKind}
    (hik : ik ∈ [(Instr.filtLoadI1LP1 slot sign p ff fb, CtrlKind.i1lp1), (.filtLoadI1LP2 slot sign p ff fb, .i1lp2),
      (.filtLoadI2LP1 slot sign p ff fb, .i2lp1), (.filtLoadI2LP2 slot sign p ff fb, .i2lp2)]) :
    exec ik.1 s = filtLoadLoop ik.2 slot sign p ff fb s := by
  simp only [List.mem_cons, List.not_mem_nil, or_false] at hik
  obtain rfl | rfl | rfl | rfl := hik
  all_goals rfl

theorem filtLoadLoop_of_fits {s : State} {kind : CtrlKind} {p : LoopParams} {ff fb : List NUM} (slot : CtrlSel)
    (sign : Sign) (hfit : vectorsFit s.sizes.tapsMax ff fb = true) (hout : fle p.outLo p.outHi = true)
    (hint : fle p.intLo p.intHi = true) :
    filtLoadLoop kind slot sign p ff fb s =
      .next (setCtrlSlot { s with out := s.out ++ [.rsp .ok] } slot
        (cfApply s.sizes.tapsMax (ctrlSlot s slot) kind sign (.loop p ff fb))) := by
  have hbounds : checkLoop p = true := Bool.and_eq_true_iff.2 ⟨hout, hint⟩
  rw [← filtApply_eq]
  exact if_pos (Bool.and_eq_true_iff.2 ⟨hfit, hbounds⟩)

/-- Settles O22: a built PID is a construction that the outgoing filter seeds. -/
theorem loadPidBuilds : Obligations.LoadPidBuilds := by
  intro s slot sign p F z hout hint hbuilds
  rw [exec_loadPid slot sign hout hint, cfApply_of_builds _ _ _ hbuilds]
  rfl

/-- Settles O23: a built Loop filter is a construction that the outgoing filter seeds. -/
theorem loadLoopBuilds : Obligations.LoadLoopBuilds := by
  intro s slot sign p ff fb ik hik F z seed double hff hff' hfb hfb' hout hint hbuilds
  rw [exec_loadLoop hik, filtLoadLoop_of_fits slot sign (vectorsFit_iff.2 ⟨hff, hff', hfb, hfb'⟩) hout hint,
    cfApply_of_builds _ _ _ hbuilds]
  rfl

/-- Settles O24: the kind that the slot holds is mutated. -/
theorem sameKindMutates : Obligations.SameKindMutates := by
  intro s slot sign F
  refine ⟨fun p hvalid hkind hout hint => ?pid,
    fun p ff fb ik hik hvalid hkind hff hff' hfb hfb' hout hint => ?loop⟩
  case pid =>
    rw [exec_loadPid slot sign hout hint, cfApply_of_mutates _ _ _ hvalid hkind]
    rfl
  case loop =>
    rw [exec_loadLoop hik, filtLoadLoop_of_fits slot sign (vectorsFit_iff.2 ⟨hff, hff', hfb, hfb'⟩) hout hint,
      cfApply_of_mutates _ _ _ hvalid hkind]
    rfl

/-- Bounds that one comparison finds out of order. -/
theorem boundsFit_eq_false {outLo outHi intLo intHi : NUM} (h : fle outLo outHi = false ∨ fle intLo intHi = false) :
    boundsFit outLo outHi intLo intHi = false := by
  rw [boundsFit, Bool.and_eq_false_iff]
  exact h

/-- Settles O25: a failed check is a failed guard of the LOAD form, and the guard's other branch is the rejection. -/
theorem loadRejected : Obligations.LoadRejected := by
  intro s slot sign q p ff fb badLengths rejected
  have hlengths (h : badLengths) : vectorsFit s.sizes.tapsMax ff fb = false :=
    Bool.eq_false_iff.2 fun hfit => h (vectorsFit_iff.1 hfit)
  refine ⟨fun h => ?pid, fun h => ?loop, fun h => ?lp⟩
  case pid => exact if_neg (Bool.eq_false_iff.1 (boundsFit_eq_false h))
  case lp => exact if_neg (Bool.eq_false_iff.1 (hlengths h))
  case loop =>
    have hguard : (vectorsFit s.sizes.tapsMax ff fb && checkLoop p) = false := by
      rw [Bool.and_eq_false_iff]
      exact h.imp hlengths boundsFit_eq_false
    have hloop (kind : CtrlKind) : filtLoadLoop kind slot sign p ff fb s = rejected := if_neg (Bool.eq_false_iff.1 hguard)
    exact ⟨hloop .i1lp1, hloop .i1lp2, hloop .i2lp1, hloop .i2lp2⟩

/-- The auxiliary slot after FILT.LOAD.LP: the coefficients, and on an invalid slot the rest of a construction (R138). -/
theorem auxApply_eq (taps : Nat) (A : AuxSlot) (ff fb : List NUM) :
    auxApply taps A ff fb =
      { valid := true
        coef := ⟨ff.length, fb.length, ff ++ A.coef.ff.drop ff.length, fb ++ A.coef.fb.drop fb.length⟩
        h1 := if A.valid = true then A.h1 else ⟨List.replicate taps NUM.zero, List.replicate taps NUM.zero⟩ } := by
  cases hvalid : A.valid <;> simp [auxApply, hvalid, loadCoefs, overwrite, rfReset_def]

/-- Settles O26: lengths that fit are all that the form checks. -/
theorem loadLpWrites : Obligations.LoadLpWrites := by
  intro s ff fb z hff hff' hfb hfb'
  have hfit : vectorsFit s.sizes.tapsMax ff fb = true := vectorsFit_iff.2 ⟨hff, hff', hfb, hfb'⟩
  have hexec : exec (.filtLoadLP ff fb) s = .next (auxLoad s ff fb) := if_pos hfit
  rw [hexec, auxLoad, auxApply_eq]
  rfl

/-! ### The DESIGN forms (R225 to R230) -/

theorem synDesign_of_accepted {taps : Nat} {d : DesignParams} {n : Nat} (hvalid : synValidate d = none)
    (horder : synOrder taps d = some n) (hcutoff : cutoffFits d n = true) :
    synDesign taps d = .ok (synVectors d n) := by
  simp [synDesign, hvalid, horder, hcutoff]

theorem synDesign_of_invalid (taps : Nat) {d : DesignParams} {e : Status} (hvalid : synValidate d = some e) :
    synDesign taps d = .error e := by
  simp [synDesign, hvalid]

theorem synDesign_of_no_order {taps : Nat} {d : DesignParams} (hvalid : synValidate d = none)
    (horder : synOrder taps d = none) : synDesign taps d = .error .paramError := by
  simp [synDesign, hvalid, horder]

theorem synDesign_of_high_cutoff {taps : Nat} {d : DesignParams} {n : Nat} (hvalid : synValidate d = none)
    (horder : synOrder taps d = some n) (hcutoff : cutoffFits d n = false) :
    synDesign taps d = .error .designFreqError := by
  simp [synDesign, hvalid, horder, hcutoff]

/-- The DESIGN form of a Loop kind is the LOAD form with the designed vectors, which fit as they are (R230). -/
theorem filtDesignLoop_eq_filtLoadLoop {s : State} {kind : CtrlKind} {slot : CtrlSel} {sign : Sign} {p : LoopParams}
    {d : DesignParams} {v : List NUM × List NUM} (hbounds : checkLoop p = true)
    (hd : synDesign s.sizes.tapsMax d = .ok v) :
    filtDesignLoop kind slot sign p d s = filtLoadLoop kind slot sign p v.1 v.2 s := by
  rw [filtDesignLoop_ok hbounds hd]
  exact (if_pos (Bool.and_eq_true_iff.2 ⟨synDesign_fits hd, hbounds⟩)).symm

/-- Settles O27: an accepted design is loaded; its vectors are acceptable or the nearest, and of the lengths that R159 gives. -/
theorem designActsAsLoad : Obligations.DesignActsAsLoad := by
  intro s slot sign p d n hvalid horder hcutoff ff fb
  have hd : synDesign s.sizes.tapsMax d = .ok (ff, fb) := synDesign_of_accepted hvalid horder hcutoff
  obtain ⟨hff, hfb⟩ := synVectors_length d n
  refine ⟨hff, hfb, synVectors_cases d n, fun hout hint ik hik => ?loop, ?lp, auxApply s.sizes.tapsMax s.aux ff fb, ?aux⟩
  case loop =>
    have hbounds : checkLoop p = true := Bool.and_eq_true_iff.2 ⟨hout, hint⟩
    have hkind : ∃ kind, exec ik.1 s = filtDesignLoop kind slot sign p d s ∧
        exec ik.2 s = filtLoadLoop kind slot sign p ff fb s := by
      simp only [List.mem_cons, List.not_mem_nil, or_false] at hik
      obtain rfl | rfl | rfl | rfl := hik
      exacts [⟨.i1lp1, rfl, rfl⟩, ⟨.i1lp2, rfl, rfl⟩, ⟨.i2lp1, rfl, rfl⟩, ⟨.i2lp2, rfl, rfl⟩]
    obtain ⟨kind, hdesign, hload⟩ := hkind
    rw [hdesign, hload, filtDesignLoop_eq_filtLoadLoop hbounds hd,
      filtLoadLoop_of_fits slot sign (synDesign_fits hd) hout hint]
    exact ⟨rfl, _, rfl⟩
  case lp => exact (execFiltDesignLP_ok hd).trans (if_pos (synDesign_fits hd)).symm
  case aux => exact execFiltDesignLP_ok hd

/-- Settles O28: bounds are looked at before the synthesizer; after them the command rejects with the synthesizer's first
error. -/
theorem designErrors : Obligations.DesignErrors := by
  intro s slot sign p d rejected
  have hloop (kind : CtrlKind) (h : fle p.outLo p.outHi = false ∨ fle p.intLo p.intHi = false) :
      filtDesignLoop kind slot sign p d s = rejected .paramError :=
    if_neg (Bool.eq_false_iff.1 (boundsFit_eq_false h))
  refine ⟨fun i hi h => ?bounds, fun i hi h => ?synthesizer⟩
  case bounds =>
    simp only [List.mem_cons, List.not_mem_nil, or_false] at hi
    obtain rfl | rfl | rfl | rfl := hi
    exacts [hloop .i1lp1 h, hloop .i1lp2 h, hloop .i2lp1 h, hloop .i2lp2 h]
  case synthesizer =>
    have herror (e : Status) (hd : synDesign s.sizes.tapsMax d = .error e) : exec i s = rejected e := by
      have hbounds (hne : i ≠ .filtDesignLP d) : checkLoop p = true := Bool.and_eq_true_iff.2 (h.resolve_left hne)
      simp only [List.mem_cons, List.not_mem_nil, or_false] at hi
      obtain rfl | rfl | rfl | rfl | rfl := hi
      case inr.inr.inr.inr => exact execFiltDesignLP_error hd
      all_goals exact filtDesignLoop_error (hbounds (by simp)) hd
    exact ⟨fun e hv => herror e (synDesign_of_invalid _ hv), fun hv ho => herror _ (synDesign_of_no_order hv ho),
      fun n hv ho hc => herror _ (synDesign_of_high_cutoff hv ho hc)⟩

end Sys2Proof.Proofs

/-!
PROOFS. The operations as they are presented: ENQUEUE and its queue, TICK from its record, a command in the drain phase
(spec/00_scope.md R13; spec/20_memory.md R62, R63, R68; spec/43_lock_controller.md R171, R172).
-/

namespace Sys2Proof.Proofs

open Sys2Proof Sys2Proof.Machine

/- One theorem after the other, as in the tests: side by side each takes a thread, and its stack. -/
set_option Elab.async false

/-! ### A step, by the operation that comes next (R13, R62) -/

section Step

variable {s : State} {rest : List Op} (hsizes : sizesValid s.sizes = true) (hcfg : cfgValid s.cfg = true)

include hsizes hcfg

theorem step_tick {w : TickWord} (hop : nextOp (queueFull s) s.inbox = some (.tick w, rest)) :
    step s = exec (decodeTick w) (beginOp s rest) := by
  simp [step, fetch, hsizes, hcfg, hop]

theorem step_enqueue {m : Message} (hop : nextOp (queueFull s) s.inbox = some (.enqueue m, rest)) :
    step s = enqueue m (beginOp s rest) := by
  simp [step, fetch, hsizes, hcfg, hop]

theorem step_resetOp {c : Cfg} (hop : nextOp (queueFull s) s.inbox = some (.reset c, rest)) :
    step s = resetOp c (beginOp s rest) := by
  simp [step, fetch, hsizes, hcfg, hop]

/-- With nothing enabled the engine holds its state (R253, log 13). -/
theorem step_idle (hop : nextOp (queueFull s) s.inbox = none) : step s = .next (beginOp s s.inbox) := by
  simp [step, fetch, hsizes, hcfg, hop]

end Step

theorem nextOp_tick (full : Bool) (w : TickWord) (rest : List Op) :
    nextOp full (.tick w :: rest) = some (.tick w, rest) := rfl

theorem queueFull_iff {s : State} : queueFull s = true ↔ s.sizes.cqDepth ≤ s.cq.length := decide_eq_true_iff

theorem nextOp_enqueue_of_room {s : State} (m : Message) (rest : List Op) (hroom : s.cq.length < s.sizes.cqDepth) :
    nextOp (queueFull s) (.enqueue m :: rest) = some (.enqueue m, rest) := by
  have hfull : queueFull s = false := Bool.eq_false_iff.2 (mt queueFull_iff.1 (not_le.2 hroom))
  rw [hfull]
  rfl

/-- Settles O7: a TICK at the head is taken from the port and run. -/
theorem stepRunsTick : Obligations.StepRunsTick := by
  intro s w rest i hsizes hcfg hop hdec
  cases hdec
  exact step_tick hsizes hcfg (by rw [hop, nextOp_tick])

/-- Settles O12: on a full queue the ENQUEUE stays presented, and what is behind it is looked for. -/
theorem enqueueAppends : Obligations.EnqueueAppends := by
  intro s m rest hsizes hcfg hop
  refine ⟨fun hroom => ?room, fun hfull hrest => ?nothing, fun hfull w rest' hrest => ?tick⟩
  case room => exact step_enqueue hsizes hcfg (by rw [hop, nextOp_enqueue_of_room m rest hroom])
  case nothing =>
    subst hrest
    exact step_idle hsizes hcfg (by rw [queueFull_iff.2 hfull, hop]; rfl)
  case tick =>
    subst hrest
    exact step_tick hsizes hcfg (by rw [queueFull_iff.2 hfull, hop]; rfl)

/-! ### Several steps -/

/-- A run goes on from what its first step leaves. -/
theorem run_succ_of_next (M : Host.Core) {s t : M.State} (k : Nat) (h : M.step s = .next t) :
    M.run (k + 1) s = M.run k t := by
  rw [Host.Core.run, h]

/-- ENQUEUEs that fit, one step each. -/
theorem run_enqueues {s : State} {ms : List Message} {rest : List Op} (hsizes : sizesValid s.sizes = true)
    (hcfg : cfgValid s.cfg = true) (hop : s.inbox = ms.map Op.enqueue ++ rest) (hout : ms = [] → s.out = [])
    (hroom : s.cq.length + ms.length ≤ s.sizes.cqDepth) :
    Host.Core.run core ms.length s = .next { s with cq := s.cq ++ ms, inbox := rest, out := [] } := by
  induction ms generalizing s with
  | nil =>
    have hinbox : rest = s.inbox := hop.symm
    have hnone : [] = s.out := (hout rfl).symm
    rw [hinbox, hnone, List.append_nil]
    rfl
  | cons m ms ih =>
    rw [List.length_cons] at hroom ⊢
    have hfirst : nextOp (queueFull s) s.inbox = some (.enqueue m, ms.map Op.enqueue ++ rest) := by
      rw [hop, List.map_cons, List.cons_append, nextOp_enqueue_of_room _ _ (by omega)]
    have hstep : step s = .next { s with cq := s.cq ++ [m], inbox := ms.map Op.enqueue ++ rest, out := [] } :=
      step_enqueue hsizes hcfg hfirst
    refine (run_succ_of_next core ms.length hstep).trans
      ((ih (s := { s with cq := s.cq ++ [m], inbox := ms.map Op.enqueue ++ rest, out := [] })
        hsizes hcfg rfl (fun _ => rfl) ?_).trans ?_)
    · show (s.cq ++ [m]).length + ms.length ≤ s.sizes.cqDepth
      rw [List.length_append, List.length_singleton]
      omega
    · rw [List.append_assoc, List.singleton_append]

/-- Settles O13: by induction on the messages. -/
theorem queueIsFifo : Obligations.QueueIsFifo := by
  intro s ms rest hsizes hcfg hop hne hroom
  exact run_enqueues hsizes hcfg hop (fun hnil => absurd hnil hne) hroom

/-! ### A command in the drain phase (R171, R200) -/

/-- A queue of one message that decodes: the drain phase is the command, which leaves the queue as it found it. -/
theorem drain_singleton {m : Message} {i : Instr} (hdec : decodeMessage m = .ok i) (s : State) :
    drain [m] s = exec i { s with cq := [] } := by
  rw [drain, execMessage_of_decode_ok hdec]
  cases hexec : exec i { s with cq := [] } with
  | next t =>
    have hcq : t.cq = [] := (exec_command_effect (decode_isCommand hdec) hexec).cq
    have hend : drain t.cq t = .next t := drain_nil hcq
    rwa [hcq] at hend
  | fault r => rfl
  | refused r => rfl

/-- Settles O8: with NEW = 0 the TICK is its drain phase, and that is the one command. -/
theorem stepRunsCommand : Obligations.StepRunsCommand := by
  intro s w rest m i hsizes hcfg hop hnew hq hdec
  have hstep : step s = exec (decodeTick w) (beginOp s rest) := step_tick hsizes hcfg (by rw [hop, nextOp_tick])
  have hdrain : drain (beginOp s rest).cq (beginOp s rest) = exec i { beginOp s rest with cq := [] } := by
    rw [beginOp_cq, hq, drain_singleton hdec]
  rw [hstep, decodeTick, hnew, exec_tick_withoutSample, hdrain]
  rfl

/-! ### The state after RESET (R37) -/

/-- Settles O10: read off the definition. -/
theorem resetState : Obligations.ResetState := by
  simp [Obligations.ResetState, State.reset, State.resetWith]

end Sys2Proof.Proofs

/-!
PROOFS. The invariants of the engine: every write of a command keeps them, the sample step keeps them, and with them no rule
reads an invalid slot (spec/10_state.md R25, R28 to R35; spec/60_exceptions.md R240).
-/

namespace Sys2Proof.Proofs

open Sys2Proof Sys2Proof.Machine

/- One theorem after the other, as in the tests: side by side each takes a thread, and its stack. -/
set_option Elab.async false

/-! ### The commands -/

theorem one_le_tapsMax {s : State} (h : s.Inv) : 1 ≤ s.sizes.tapsMax := by
  have hsizes := h.sizesOk
  simp only [sizesValid, Bool.and_eq_true, decide_eq_true_eq] at hsizes
  omega

theorem inv_emit {s : State} (o : Output) (h : s.Inv) : (emit s o).Inv := { h with }

theorem inv_queue {s : State} (q : List Message) (hq : q.length ≤ s.cq.length) (h : s.Inv) :
    ({ s with cq := q } : State).Inv :=
  { h with queueBound := hq.trans h.queueBound }

/-- A control slot may be replaced by a well-formed one that is valid where the old one was. -/
theorem inv_setCtrlSlot {s : State} (h : s.Inv) (slot : CtrlSel) {F : CtrlSlot}
    (hvalid : (ctrlSlot s slot).valid = true → F.valid = true) (hwf : F.WellFormed s.sizes.tapsMax) :
    (setCtrlSlot s slot F).Inv := by
  cases slot with
  | freq => exact { h with lockedFreq := fun hl => hvalid (h.lockedFreq hl), freqSlot := hwf }
  | phase => exact { h with lockedPhase := fun hl ht => hvalid (h.lockedPhase hl ht), phaseSlot := hwf }

theorem ctrlSlot_wf {s : State} (h : s.Inv) (slot : CtrlSel) : (ctrlSlot s slot).WellFormed s.sizes.tapsMax := by
  cases slot with
  | freq => exact h.freqSlot
  | phase => exact h.phaseSlot

/-- Every write of a command keeps the invariants, by the checks that it has passed. -/
theorem CommandWrites.inv {s w : State} {i : Instr} (h : s.Inv) (hw : CommandWrites s i w) : w.Inv := by
  cases hw
  case nothing => exact h
  case manual | actEn | setpoint => exact { h with }
  case ctrlSlot slot kind sign params hfit =>
    exact inv_setCtrlSlot h slot (cfApply_valid _ _ _ _ _) (cfApply_wf (one_le_tapsMax h) (ctrlSlot_wf h slot) hfit)
  case auxSlot hfit =>
    exact { h with
      requestedAux := fun _ => auxApply_valid ..
      effectiveAux := fun _ => auxApply_valid ..
      auxSlot := auxApply_wf h.auxSlot hfit }
  case toggle haux => exact { h with requestedAux := haux }
  case histories =>
    exact { h with
      lockedFreq := fun hl => (resetIf_valid ..).trans (h.lockedFreq hl)
      lockedPhase := fun hl ht => (resetIf_valid ..).trans (h.lockedPhase hl ht)
      requestedAux := fun hr => (resetAuxIf_valid ..).trans (h.requestedAux hr)
      effectiveAux := fun he => (resetAuxIf_valid ..).trans (h.effectiveAux he)
      freqSlot := resetIf_wf h.freqSlot
      phaseSlot := resetIf_wf h.phaseSlot
      auxSlot := resetAuxIf_wf h.auxSlot }
  case disengage =>
    exact { h with
      cntBound := Nat.zero_le _
      unlockedCnt := fun _ => rfl
      frequencyCnt := fun _ => rfl
      frequencyLock := fun _ => nofun
      lockedFreq := fun hl => absurd rfl hl
      lockedPhase := fun hl => absurd rfl hl }
  case engage hlock hfreq hphase hact =>
    exact { h with
      cntBound := Nat.zero_le _
      unlockedCnt := fun _ => rfl
      frequencyCnt := fun _ => rfl
      frequencyLock := fun _ => nofun
      lockedFreq := fun _ => (cfSeed_valid ..).trans hfreq
      lockedPhase := fun _ ht => hphase ht
      freqSlot := cfSeed_wf h.freqSlot }
  case targetPhase hphase =>
    exact { h with
      frequencyCnt := nofun
      frequencyLock := nofun
      lockedPhase := fun hl _ => hphase hl }
  case targetFrequency hlock =>
    exact { h with
      cntBound := Nat.zero_le _
      unlockedCnt := fun _ => rfl
      frequencyCnt := fun _ => rfl
      frequencyLock := fun _ => hlock
      lockedPhase := nofun }
  case leavePhase hlock hfreq =>
    exact { h with
      cntBound := Nat.zero_le _
      unlockedCnt := fun _ => rfl
      frequencyCnt := fun _ => rfl
      frequencyLock := fun _ => nofun
      lockedFreq := fun _ => (cfSeed_valid ..).trans hfreq
      lockedPhase := nofun
      freqSlot := cfSeed_wf h.freqSlot }

theorem inv_keptByCommands : KeptByCommands State.Inv :=
  ⟨inv_emit, inv_queue, fun h hw => hw.inv h⟩

/-! ### The sample step -/

section SampleStep

variable {s : State} (ch1 ch2 avg : NUM)

theorem sampleStep_lockState :
    (sampleStep s ch1 ch2 avg).lockState = (hysteresis (shape s avg)).lockState := by
  simp [sampleStep]

theorem hysteresis_shape_cnt : (hysteresis (shape s avg)).cnt = (sampleStep s ch1 ch2 avg).cnt := by
  simp [sampleStep]

/-- The lock state that a sample step leaves, by the counter that it leaves (R178, R179). -/
theorem sampleStep_lockState_eq :
    (sampleStep s ch1 ch2 avg).lockState =
      if pursuing s = true ∧ s.lockState = .freqLocked ∧ (sampleStep s ch1 ch2 avg).cnt.toNat = s.cfg.counterLimit then
        .phaseLocked
      else if pursuing s = true ∧ s.lockState = .phaseLocked ∧ (sampleStep s ch1 ch2 avg).cnt.toNat = 0 then .freqLocked
      else s.lockState := by
  rw [sampleStep_lockState, hysteresis_lockState, hysteresis_shape_cnt ch1 ch2 avg]
  simp only [pursuing_shape, shape_lockState, shape_cfg]

theorem sampleStep_of_not_pursuing (h : ¬pursuing s = true) :
    (sampleStep s ch1 ch2 avg).lockState = s.lockState ∧ (sampleStep s ch1 ch2 avg).cnt = s.cnt := by
  rw [sampleStep_lockState_eq, sampleStep_cnt]
  simp [h]

/-- A sample step neither engages nor disengages (R186). -/
theorem sampleStep_unlocked_iff : (sampleStep s ch1 ch2 avg).lockState = .unlocked ↔ s.lockState = .unlocked := by
  rw [sampleStep_lockState_eq]
  split
  case isTrue h => simp [h]
  case isFalse =>
    split
    case isTrue h => simp [h]
    case isFalse => rfl

theorem controlStep_wf {s : State} {taps : Nat} (htaps : s.sizes.tapsMax = taps) (hf : s.freq.WellFormed taps)
    (hp : s.phase.WellFormed taps) :
    (controlStep s).freq.WellFormed taps ∧ (controlStep s).phase.WellFormed taps := by
  subst htaps
  unfold controlStep
  split
  case isTrue =>
    unfold controlLocked
    cases hsel : activeSel s
    · exact ⟨cfUpdate_wf hf, hp⟩
    · exact ⟨hf, cfUpdate_wf hp⟩
  case isFalse => exact ⟨hf, hp⟩

theorem hysteresis_wf {s : State} (hf : s.freq.WellFormed s.sizes.tapsMax) (hp : s.phase.WellFormed s.sizes.tapsMax) :
    (hysteresis s).freq.WellFormed s.sizes.tapsMax ∧ (hysteresis s).phase.WellFormed s.sizes.tapsMax := by
  rw [hysteresis_freq, hysteresis_phase]
  constructor
  · split
    · exact cfSeed_wf hf
    · exact hf
  · split
    · exact cfSeed_wf hp
    · exact hp

/-- Seeds, updates and shifts keep the shapes of the slots. -/
theorem sampleStep_ctrl_wf (h : s.Inv) :
    (sampleStep s ch1 ch2 avg).freq.WellFormed s.sizes.tapsMax ∧
      (sampleStep s ch1 ch2 avg).phase.WellFormed s.sizes.tapsMax := by
  have hhyst := hysteresis_wf (s := shape s avg) (by simpa using h.freqSlot) (by simpa using h.phaseSlot)
  obtain ⟨hfreq, hphase⟩ := hhyst
  rw [shape_sizes] at hfreq hphase
  simp only [sampleStep, emitSample_freq, emitSample_phase]
  exact controlStep_wf (by simp) (by simpa using hfreq) (by simpa using hphase)

theorem shape_aux_wf (h : s.Inv) : (shape s avg).aux.WellFormed s.sizes.tapsMax := by
  cases huse : lpInUse s with
  | false => simpa [shape_off avg huse] using h.auxSlot
  | true =>
    have hprimed : (primeAux s avg).h1.WellFormed s.sizes.tapsMax := by
      rw [primeAux_h1]
      split
      · exact h.auxSlot.h1
      · exact filled_wf ..
    rw [shape_on avg huse]
    exact ⟨h.auxSlot.coef, rfUpdate_wf hprimed⟩

/-- The sample step keeps the invariants. -/
theorem sampleStep_inv (h : s.Inv) : (sampleStep s ch1 ch2 avg).Inv := by
  obtain ⟨hsizes, hcfg, -, hcq, htgt, hreq, hfreq, hphase, haux, -⟩ := sampleStep_frame s ch1 ch2 avg
  obtain ⟨hfreqWf, hphaseWf⟩ := sampleStep_ctrl_wf ch1 ch2 avg h
  have hidle (ht : s.tgt = .frequency) : ¬pursuing s = true := by simp [pursuing, ht]
  have hunlocked := sampleStep_unlocked_iff (s := s) ch1 ch2 avg
  exact
    { sizesOk := by rw [hsizes]; exact h.sizesOk
      cfgOk := by rw [hcfg]; exact h.cfgOk
      cntBound := by
        rw [hcfg, sampleStep_cnt]
        split
        · simpa using countStep_bound (shape s avg) (by simpa using h.cntBound) (by simpa using h.cfgOk)
        · exact h.cntBound
      unlockedCnt := fun hl => by
        have hl' : s.lockState = .unlocked := hunlocked.1 hl
        rw [(sampleStep_of_not_pursuing ch1 ch2 avg (by simp [pursuing, isLocked, hl'])).2]
        exact h.unlockedCnt hl'
      frequencyCnt := fun ht => by
        rw [(sampleStep_of_not_pursuing ch1 ch2 avg (hidle (htgt.symm.trans ht))).2]
        exact h.frequencyCnt (htgt.symm.trans ht)
      frequencyLock := fun ht => by
        rw [(sampleStep_of_not_pursuing ch1 ch2 avg (hidle (htgt.symm.trans ht))).1]
        exact h.frequencyLock (htgt.symm.trans ht)
      lockedFreq := fun hl => hfreq.trans (h.lockedFreq (mt hunlocked.2 hl))
      lockedPhase := fun hl ht => hphase.trans (h.lockedPhase (mt hunlocked.2 hl) (htgt.symm.trans ht))
      requestedAux := fun hr => haux.trans (h.requestedAux (hreq.symm.trans hr))
      effectiveAux := fun he => haux.trans (h.requestedAux ((sampleStep_lpEff s ch1 ch2 avg).symm.trans he))
      freqSlot := by rw [hsizes]; exact hfreqWf
      phaseSlot := by rw [hsizes]; exact hphaseWf
      auxSlot := by rw [hsizes, sampleStep_aux]; exact shape_aux_wf avg h
      queueBound := by rw [hcq, hsizes]; exact h.queueBound }

end SampleStep

/-! ### The operations -/

theorem inv_beginOp {s : State} (rest : List Op) (h : s.Inv) : (beginOp s rest).Inv := { h with }

/-- The state that RESET leaves has nothing engaged, nothing counted and no valid slot (R37). -/
theorem inv_resetWith {z : Sizes} {c : Cfg} (hz : sizesValid z = true) (hc : cfgValid c = true) (ops : List Op) :
    (State.resetWith z c ops).Inv where
  sizesOk := hz
  cfgOk := hc
  cntBound := Nat.zero_le _
  unlockedCnt := fun _ => rfl
  frequencyCnt := fun _ => rfl
  frequencyLock := fun _ => nofun
  lockedFreq := fun hl => absurd rfl hl
  lockedPhase := fun hl => absurd rfl hl
  requestedAux := nofun
  effectiveAux := nofun
  freqSlot := ⟨⟨List.length_replicate, List.length_replicate, nofun, nofun⟩, filled_wf .., filled_wf .., nofun, nofun⟩
  phaseSlot := ⟨⟨List.length_replicate, List.length_replicate, nofun, nofun⟩, filled_wf .., filled_wf .., nofun, nofun⟩
  auxSlot := ⟨⟨List.length_replicate, List.length_replicate, nofun, nofun⟩, filled_wf ..⟩
  queueBound := Nat.zero_le _

/-- Settles O50: the launch configuration meets its constraints. -/
theorem resetHasInvariants : Obligations.ResetHasInvariants := inv_resetWith (by decide) (by decide) []

/-- ENQUEUE is enabled only while there is room (R62). -/
theorem room_of_nextOp_enqueue {full : Bool} {m : Message} :
    ∀ {ops rest : List Op}, nextOp full ops = some (.enqueue m, rest) → full = false
  | .enqueue m' :: ops, rest, h => by
    cases full with
    | false => rfl
    | true =>
      simp only [nextOp, if_true, Option.map_eq_some_iff] at h
      obtain ⟨⟨op, rest'⟩, hnext, heq⟩ := h
      cases heq
      exact room_of_nextOp_enqueue hnext
  | .reset _ :: _, _, h | .tick _ :: _, _, h => by cases h

theorem exec_inv {s t : State} {i : Instr} (h : s.Inv) (hexec : exec i s = .next t) : t.Inv :=
  inv_keptByCommands.exec (fun ch1 ch2 avg _ hs => sampleStep_inv ch1 ch2 avg hs) h hexec

/-- Settles O49: by the operation that comes next. -/
theorem stepKeepsInvariants : Obligations.StepKeepsInvariants := by
  intro s t h hstep
  cases hop : nextOp (queueFull s) s.inbox with
  | none =>
    rw [step_idle h.sizesOk h.cfgOk hop] at hstep
    cases hstep
    exact inv_beginOp _ h
  | some next =>
    obtain ⟨op, rest⟩ := next
    cases op with
    | reset c =>
      rw [step_resetOp h.sizesOk h.cfgOk hop, resetOp] at hstep
      split at hstep <;> cases hstep
      next hc => exact inv_resetWith h.sizesOk hc rest
    | enqueue m =>
      rw [step_enqueue h.sizesOk h.cfgOk hop] at hstep
      cases hstep
      have hroom : ¬s.sizes.cqDepth ≤ s.cq.length := by
        rw [← queueFull_iff, room_of_nextOp_enqueue hop]
        exact Bool.false_ne_true
      have hlength : (s.cq ++ [m]).length ≤ s.sizes.cqDepth := by
        rw [List.length_append, List.length_singleton]
        omega
      exact { inv_beginOp rest h with queueBound := hlength }
    | tick w =>
      rw [step_tick h.sizesOk h.cfgOk hop] at hstep
      exact exec_inv (inv_beginOp rest h) hstep

/-! ### Completion -/

theorem filtLoadLoop_completes (kind : CtrlKind) (slot : CtrlSel) (sign : Sign) (p : LoopParams) (ff fb : List NUM)
    (s : State) : ∃ t, filtLoadLoop kind slot sign p ff fb s = .next t := by
  unfold filtLoadLoop
  split <;> exact ⟨_, rfl⟩

theorem filtDesignLoop_completes (kind : CtrlKind) (slot : CtrlSel) (sign : Sign) (p : LoopParams) (d : DesignParams)
    (s : State) : ∃ t, filtDesignLoop kind slot sign p d s = .next t := by
  unfold filtDesignLoop
  split
  · split <;> exact ⟨_, rfl⟩
  · exact ⟨_, rfl⟩

theorem lockB1_completes (s : State) : ∃ t, execLockB1 s = .next t := by
  unfold execLockB1
  split
  · exact ⟨_, rfl⟩
  split
  · exact ⟨_, rfl⟩
  split
  · exact ⟨_, rfl⟩
  split <;> exact ⟨_, rfl⟩

/-- MODE B=0 stops in Phase mode without a frequency filter, which R25 (iv) shuts out. -/
theorem modeB0_completes {s : State} (h : s.Inv) : ∃ t, execModeB0 s = .next t := by
  unfold execModeB0
  dsimp only
  split
  case isTrue hlock =>
    have hlocked : s.lockState ≠ .unlocked := by simp [isPhaseLocked_iff.1 hlock]
    exact ⟨_, if_pos (h.lockedFreq hlocked)⟩
  case isFalse => exact ⟨_, rfl⟩

/-- Of the commands only MODE B=0 could stop. -/
theorem exec_command_completes {s : State} {i : Instr} (h : s.Inv) (hi : isCommand i = true) :
    ∃ t, exec i s = .next t := by
  cases i <;> simp only [exec]
  case tick => cases hi
  case acqRate | acqChannels | acqConnect | acqDisconnect | acqDevices | actAmp | actPhase | actConnect |
      actDisconnect | actDevices | actFreq | actEn | sp | lockB0 | reset =>
    exact ⟨_, rfl⟩
  case filtLoadI1LP1 | filtLoadI1LP2 | filtLoadI2LP1 | filtLoadI2LP2 => exact filtLoadLoop_completes ..
  case filtDesignI1LP1 | filtDesignI1LP2 | filtDesignI2LP1 | filtDesignI2LP2 => exact filtDesignLoop_completes ..
  case filtLoadPid => unfold execFiltLoadPid; split <;> exact ⟨_, rfl⟩
  case filtLoadLP => unfold execFiltLoadLP; split <;> exact ⟨_, rfl⟩
  case filtDesignLP => unfold execFiltDesignLP; split <;> exact ⟨_, rfl⟩
  case lpApply => unfold execLpApply; split <;> exact ⟨_, rfl⟩
  case lockB1 => exact lockB1_completes s
  case modeB0 => exact modeB0_completes h
  case modeB1 => unfold execModeB1; split <;> exact ⟨_, rfl⟩

theorem execMessage_completes {s : State} (m : Message) (h : s.Inv) : ∃ t, execMessage m s = .next t := by
  cases hdec : decodeMessage m with
  | error e => exact ⟨_, execMessage_of_decode_error hdec s⟩
  | ok i =>
    rw [execMessage_of_decode_ok hdec]
    exact exec_command_completes h (decode_isCommand hdec)

/-- The drain phase completes, since each message leaves a state with the invariants to the next. -/
theorem drain_completes (ms : List Message) {s : State} (h : s.Inv) (hq : ms.length ≤ s.cq.length) :
    ∃ t, drain ms s = .next t := by
  induction ms generalizing s with
  | nil => exact ⟨_, rfl⟩
  | cons m rest ih =>
    have hrest : ({ s with cq := rest } : State).Inv := inv_queue rest (Nat.le_of_succ_le hq) h
    obtain ⟨u, hu⟩ := execMessage_completes m hrest
    have hcq : u.cq = rest := (execMessage_effect hu).cq
    rw [drain, hu]
    exact ih (inv_keptByCommands.message hrest hu) (by rw [hcq])

/-- R25 (iv) to (vii), and that no Phase mode has target Frequency. -/
theorem slotsReady_of_inv {s : State} (h : s.Inv) : slotsReady s = true := by
  have hphase (hp : s.lockState = .phaseLocked) : s.phase.valid = true := by
    refine h.lockedPhase (by simp [hp]) ?_
    cases ht : s.tgt with
    | frequency => exact absurd hp (h.frequencyLock ht)
    | phase => rfl
  have hfreqReady : (!isLocked s || s.freq.valid) = true := by
    simpa [isLocked, or_iff_not_imp_left] using h.lockedFreq
  have hphaseReady : (!(pursuing s || isPhaseLocked s) || s.phase.valid) = true := by
    rw [Bool.or_eq_true, Bool.not_eq_true', or_iff_not_imp_left, Bool.not_eq_false, Bool.or_eq_true, pursuing_iff,
      isPhaseLocked_iff]
    exact Or.rec (fun ⟨hl, ht⟩ => h.lockedPhase hl ht) hphase
  have hauxReady : (!(s.lpReq || s.lpEff) || s.aux.valid) = true := by
    rw [Bool.or_eq_true, Bool.not_eq_true', or_iff_not_imp_left, Bool.not_eq_false, Bool.or_eq_true]
    exact Or.rec h.requestedAux h.effectiveAux
  rw [slotsReady, hfreqReady, hphaseReady, hauxReady]
  rfl

/-- Settles O35: the drain phase completes and leaves the invariants, so the slots are ready for the sample step. -/
theorem tickCompletes : Obligations.TickCompletes := by
  intro s isNew ch1 ch2 avg h
  obtain ⟨u, hu⟩ := drain_completes s.cq h le_rfl
  have hready : slotsReady u = true := slotsReady_of_inv (inv_keptByCommands.drain s.cq h le_rfl hu)
  rw [exec, execTick, hu]
  cases isNew with
  | false => exact ⟨u, rfl⟩
  | true => exact ⟨_, if_pos hready⟩

theorem mem_of_nextOp_reset {full : Bool} {c : Cfg} :
    ∀ {ops rest : List Op}, nextOp full ops = some (.reset c, rest) → .reset c ∈ ops
  | .enqueue m :: ops, rest, h => by
    cases full with
    | false => cases h
    | true =>
      simp only [nextOp, if_true, Option.map_eq_some_iff] at h
      obtain ⟨⟨op, rest'⟩, hnext, heq⟩ := h
      cases heq
      exact List.mem_cons_of_mem _ (mem_of_nextOp_reset hnext)
  | .reset _ :: _, _, h => by cases h; exact List.mem_cons_self
  | .tick _ :: _, _, h => by cases h

/-- A step goes on, or a RESET with a record outside its constraints was presented and is refused (U9, log 12). -/
theorem step_cases {s : State} (h : s.Inv) :
    (∃ t, step s = .next t) ∨
      (∃ c, Op.reset c ∈ s.inbox ∧ cfgValid c = false) ∧ step s = .refused .badConfig := by
  cases hop : nextOp (queueFull s) s.inbox with
  | none => exact .inl ⟨_, step_idle h.sizesOk h.cfgOk hop⟩
  | some next =>
    obtain ⟨op, rest⟩ := next
    cases op with
    | reset c =>
      rw [step_resetOp h.sizesOk h.cfgOk hop]
      cases hc : cfgValid c with
      | true => exact .inl ⟨_, resetOp_of_cfgValid hc _⟩
      | false => exact .inr ⟨⟨c, mem_of_nextOp_reset hop, hc⟩, if_neg (by simp [hc])⟩
    | enqueue m => exact .inl ⟨_, step_enqueue h.sizesOk h.cfgOk hop⟩
    | tick w =>
      rw [step_tick h.sizesOk h.cfgOk hop]
      exact .inl (tickCompletes _ _ _ _ _ (inv_beginOp rest h))

/-- Settles O51: a refusal is no fault, and where every record presented meets its constraints nothing is refused. -/
theorem stepGoesOn : Obligations.StepGoesOn := by
  intro s h
  obtain ⟨t, ht⟩ | ⟨⟨c, hmem, hc⟩, href⟩ := step_cases h
  · exact ⟨fun f hf => (nomatch ht.symm.trans hf), fun _ => ⟨t, ht⟩⟩
  · exact ⟨fun f hf => (nomatch href.symm.trans hf), fun hall => absurd (hall c hmem) (by simp [hc])⟩

end Sys2Proof.Proofs

/-!
PROOFS. The sample step of TICK: its transition, its control step, its outputs, what it never writes, and phase-lock acquisition
(spec/43_lock_controller.md R170 to R187; spec/70_reset_and_hazards.md R272).
-/

namespace Sys2Proof.Proofs

open Sys2Proof Sys2Proof.Machine

/- One theorem after the other, as in the tests: side by side each takes a thread, and its stack. -/
set_option Elab.async false

/-! ### The transition of HYSTERESIS (R178, R179) -/

/-- The conditions of an acquisition and of a fall-back, by the state before HYSTERESIS and the counter after it. -/
def acquires (s : State) (cnt : BitVec 32) : Prop :=
  pursuing s = true ∧ s.lockState = .freqLocked ∧ cnt.toNat = s.cfg.counterLimit

def fallsBack (s : State) (cnt : BitVec 32) : Prop :=
  pursuing s = true ∧ s.lockState = .phaseLocked ∧ cnt.toNat = 0

/-- What HYSTERESIS makes of lock state, slots, phase accumulator and outputs, `h` the state that it leaves; tied to the model by
`hysteresis_transition`. -/
inductive Transition (s h : State) : Prop
  | acquired (cond : acquires s h.cnt) (lock : h.lockState = .phaseLocked) (freq : h.freq = s.freq)
      (phase : h.phase = cfSeed s.sizes.tapsMax s.phase (ctrlVal s)) (phacc : h.phacc = NUM.zero)
      (out : h.out = s.out ++ [.evPhaseAcq])
  | fellBack (cond : fallsBack s h.cnt) (lock : h.lockState = .freqLocked)
      (freq : h.freq = cfSeed s.sizes.tapsMax s.freq (ctrlVal s)) (phase : h.phase = s.phase) (phacc : h.phacc = s.phacc)
      (out : h.out = s.out)
  | stayed (notAcquired : ¬acquires s h.cnt) (notFallen : ¬fallsBack s h.cnt) (lock : h.lockState = s.lockState)
      (freq : h.freq = s.freq) (phase : h.phase = s.phase) (phacc : h.phacc = s.phacc) (out : h.out = s.out)

theorem hysteresis_transition (s : State) : Transition s (hysteresis s) := by
  by_cases hacq : acquires s (hysteresis s).cnt
  case pos =>
    have hnot : ¬fallsBack s (hysteresis s).cnt := fun ⟨_, hl, _⟩ => by simp [hl, acquires] at hacq
    refine .acquired hacq ?_ ?_ ?_ ?_ ?_
    · exact (hysteresis_lockState s).trans (if_pos hacq)
    · exact (hysteresis_freq s).trans (if_neg hnot)
    · exact (hysteresis_phase s).trans (if_pos hacq)
    · exact (hysteresis_phacc s).trans (if_pos hacq)
    · exact (hysteresis_out s).trans (if_pos hacq)
  case neg =>
    by_cases hfall : fallsBack s (hysteresis s).cnt
    case pos =>
      refine .fellBack hfall ?_ ?_ ?_ ?_ ?_
      · exact (hysteresis_lockState s).trans ((if_neg hacq).trans (if_pos hfall))
      · exact (hysteresis_freq s).trans (if_pos hfall)
      · exact (hysteresis_phase s).trans (if_neg hacq)
      · exact (hysteresis_phacc s).trans (if_neg hacq)
      · exact (hysteresis_out s).trans (if_neg hacq)
    case neg =>
      refine .stayed hacq hfall ?_ ?_ ?_ ?_ ?_
      · exact (hysteresis_lockState s).trans ((if_neg hacq).trans (if_neg hfall))
      · exact (hysteresis_freq s).trans (if_neg hfall)
      · exact (hysteresis_phase s).trans (if_neg hacq)
      · exact (hysteresis_phacc s).trans (if_neg hacq)
      · exact (hysteresis_out s).trans (if_neg hacq)

/-- HYSTERESIS sees of SHAPE only the process variable, so the transition may be read on the state before the TICK. -/
theorem shape_transition (s : State) (avg : NUM) : Transition s (hysteresis (shape s avg)) := by
  have hctrl : ctrlVal (shape s avg) = ctrlVal s := by simp [ctrlVal]
  have hacq (c : BitVec 32) : acquires (shape s avg) c ↔ acquires s c := by simp [acquires, pursuing_shape]
  have hfall (c : BitVec 32) : fallsBack (shape s avg) c ↔ fallsBack s c := by simp [fallsBack, pursuing_shape]
  cases hysteresis_transition (shape s avg) with
  | acquired cond lock freq phase phacc out =>
    exact .acquired ((hacq _).1 cond) lock (by simpa using freq) (by simpa [hctrl] using phase) phacc (by simpa using out)
  | fellBack cond lock freq phase phacc out =>
    exact .fellBack ((hfall _).1 cond) lock (by simpa [hctrl] using freq) (by simpa using phase) (by simpa using phacc)
      (by simpa using out)
  | stayed nacq nfall lock freq phase phacc out =>
    exact .stayed (mt (hacq _).2 nacq) (mt (hfall _).2 nfall) (by simpa using lock) (by simpa using freq)
      (by simpa using phase) (by simpa using phacc) (by simpa using out)

/-! ### The outputs of a TICK (R64, R178, R183, R247) -/

section SampleStep

variable (s : State) (ch1 ch2 avg : NUM)

theorem emitSample_out (u : State) : (emitSample u ch1 ch2).out = u.out ++ [.sample ch1 ch2 u.pv u.ctrl u.seq] := rfl

theorem emitSample_seq (u : State) : (emitSample u ch1 ch2).seq = u.seq + 1 := rfl

theorem sampleStep_seq : (sampleStep s ch1 ch2 avg).seq = s.seq + 1 := by
  simp [sampleStep, emitSample_seq]

/-- The control step dispatches and EMIT_SAMPLE reports what the TICK leaves. -/
theorem sampleStep_out :
    (sampleStep s ch1 ch2 avg).out =
      (hysteresis (shape s avg)).out ++
        [.actDispatch (sampleStep s ch1 ch2 avg).act,
          .sample ch1 ch2 (sampleStep s ch1 ch2 avg).pv (sampleStep s ch1 ch2 avg).ctrl s.seq] := by
  simp [sampleStep, emitSample_out, controlStep_out]

end SampleStep

/-- Settles O39: the transition of HYSTERESIS is that of the TICK, and EV_PHASE_ACQ comes before the dispatch. -/
theorem tickTransitions : Obligations.TickTransitions := by
  intro s ch1 ch2 avg hq hready
  refine ⟨sampleStep s ch1 ch2 avg, tick_next ch1 ch2 avg hq hready, ?_⟩
  intro acquired fellBack
  have hcnt : (hysteresis (shape s avg)).cnt = (sampleStep s ch1 ch2 avg).cnt := hysteresis_shape_cnt ch1 ch2 avg
  have hlock : (sampleStep s ch1 ch2 avg).lockState = (hysteresis (shape s avg)).lockState :=
    sampleStep_lockState ch1 ch2 avg
  have hacq : acquired ↔ acquires s (hysteresis (shape s avg)).cnt := by
    rw [hcnt]
    exact ⟨fun ⟨hl, ht, hc⟩ => ⟨(pursuing_iff s).2 ⟨by simp [hl], ht⟩, hl, hc⟩,
      fun ⟨hp, hl, hc⟩ => ⟨hl, ((pursuing_iff s).1 hp).2, hc⟩⟩
  have hfall : fellBack ↔ fallsBack s (hysteresis (shape s avg)).cnt := by
    rw [hcnt]
    exact ⟨fun ⟨hl, ht, hc⟩ => ⟨(pursuing_iff s).2 ⟨by simp [hl], ht⟩, hl, hc⟩,
      fun ⟨hp, hl, hc⟩ => ⟨hl, ((pursuing_iff s).1 hp).2, hc⟩⟩
  rw [sampleStep_seq, sampleStep_out, hlock]
  have hexclusive (ha : acquired) (hf : fellBack) : False := nomatch ha.1.symm.trans hf.1
  cases shape_transition s avg with
  | acquired cond lock freq phase phacc out =>
    have ha : acquired := hacq.2 cond
    rw [lock, out, List.append_assoc]
    exact ⟨fun _ => rfl, fun hf => (hexclusive ha hf).elim, fun hn => absurd ha hn, rfl, fun _ => rfl,
      fun hn => absurd ha hn⟩
  | fellBack cond lock freq phase phacc out =>
    have hf : fellBack := hfall.2 cond
    rw [lock, out]
    exact ⟨fun ha => (hexclusive ha hf).elim, fun _ => rfl, fun _ hn => absurd hf hn, rfl,
      fun ha => (hexclusive ha hf).elim, fun _ => rfl⟩
  | stayed nacq nfall lock freq phase phacc out =>
    rw [lock, out]
    exact ⟨fun ha => absurd (hacq.1 ha) nacq, fun hf => absurd (hfall.1 hf) nfall, fun _ _ => rfl, rfl,
      fun ha => absurd (hacq.1 ha) nacq, fun _ => rfl⟩

/-! ### The control step (R180 to R182) -/

theorem hysteresis_of_unlocked {s : State} (h : s.lockState = .unlocked) : hysteresis s = s := by
  simp [hysteresis, pursuing, isLocked, h]

theorem phaseIntegrate_of_not_phaseLocked {s : State} (h : s.lockState ≠ .phaseLocked) : phaseIntegrate s = s :=
  if_neg (mt isPhaseLocked_iff.1 h)

theorem phaseIntegrate_phacc (s : State) :
    (phaseIntegrate s).phacc =
      if s.lockState = .phaseLocked then fadd s.phacc (fmul (fsub s.pv s.sp) s.cfg.dt) else s.phacc := by
  simp only [phaseIntegrate, isPhaseLocked_iff]
  split <;> rfl

theorem controlStep_of_unlocked {s : State} (h : s.lockState = .unlocked) : controlStep s = controlUnlocked s :=
  if_neg (mt isLocked_iff.1 (not_not.2 h))

theorem activeSel_eq (s : State) : activeSel s = if s.lockState = .phaseLocked then .phase else .freq := by
  simp only [activeSel, isPhaseLocked_iff]

theorem shapedPv_eq (s : State) : shapedPv s = if s.lockState = .phaseLocked then s.phacc else s.pv := by
  simp only [shapedPv, isPhaseLocked_iff]

section ControlLocked

variable (s : State)

/-- What the active filter is left as and answers in `CONTROL_LOCKED` (R181). -/
def activeUpdate : CtrlSlot × NUM :=
  cfUpdate s.sizes.tapsMax s.cfg.dt (ctrlSlot s (activeSel s)) s.sp (shapedPv s)

theorem controlLocked_ctrlSlot (sel : CtrlSel) :
    ctrlSlot (controlLocked s) sel = if sel = activeSel s then (activeUpdate s).1 else ctrlSlot s sel := by
  cases hactive : activeSel s <;> cases sel <;> simp [controlLocked, activeUpdate, hactive]

theorem controlLocked_ctrl : (controlLocked s).ctrl = (activeUpdate s).2 := rfl

theorem controlLocked_ctrlValid : (controlLocked s).ctrlValid = true := rfl

theorem controlLocked_act : (controlLocked s).act = (activeUpdate s).2 := rfl

theorem controlLocked_actValid : (controlLocked s).actValid = true := rfl

end ControlLocked

theorem sampleStep_of_unlocked {s : State} (ch1 ch2 avg : NUM) (h : s.lockState = .unlocked) :
    sampleStep s ch1 ch2 avg = emitSample (controlUnlocked (shape s avg)) ch1 ch2 := by
  have hs : (shape s avg).lockState = .unlocked := (shape_lockState s avg).trans h
  rw [sampleStep, hysteresis_of_unlocked hs, phaseIntegrate_of_not_phaseLocked (by rw [hs]; decide),
    controlStep_of_unlocked hs]

theorem sampleStep_of_locked {s : State} (ch1 ch2 avg : NUM) (h : s.lockState ≠ .unlocked) :
    sampleStep s ch1 ch2 avg = emitSample (controlLocked (phaseIntegrate (hysteresis (shape s avg)))) ch1 ch2 := by
  have hlock : (hysteresis (shape s avg)).lockState ≠ .unlocked := by
    rw [← sampleStep_lockState (s := s) ch1 ch2 avg]
    exact mt (sampleStep_unlocked_iff ch1 ch2 avg).1 h
  rw [sampleStep, controlStep_locked (by rwa [phaseIntegrate_lockState])]

/-- Settles O36: without shaping and unlocked, only the measurement and the manual value pass through. -/
theorem tickUnlocked : Obligations.TickUnlocked := by
  intro s ch1 ch2 avg hq hready hlock hreq heff
  have hoff : lpInUse s = false := by
    unfold lpInUse
    split
    · exact hreq
    · exact heff
  rw [tick_next ch1 ch2 avg hq hready, sampleStep_of_unlocked ch1 ch2 avg hlock, shape_off avg hoff, hreq, ← heff]
  simp [controlUnlocked, emitSample, dispatchAct, setCtrl, emit]

/-- Settles O11: RESET leaves an unlocked state with both toggles off and an empty queue. -/
theorem firstTickAfterReset : Obligations.FirstTickAfterReset := by
  intro z c ops ch1 ch2 avg
  have h := tickUnlocked (State.resetWith z c ops) ch1 ch2 avg rfl rfl rfl rfl rfl
  rw [h]
  simp [State.resetWith]

/-- The slot that is active after HYSTERESIS is seeded by a transition, and the other one untouched; the phase accumulator starts
from zero on an acquisition (R178, R179). -/
theorem Transition.slots {s h : State} (ht : Transition s h) :
    (ctrlSlot h (activeSel h) =
      if h.lockState = s.lockState then ctrlSlot s (activeSel h)
      else cfSeed s.sizes.tapsMax (ctrlSlot s (activeSel h)) (ctrlVal s)) ∧
    (∀ sel, sel ≠ activeSel h → ctrlSlot h sel = ctrlSlot s sel) ∧
    (h.lockState = .phaseLocked → h.phacc = if h.lockState = s.lockState then s.phacc else NUM.zero) ∧
    (h.lockState ≠ .phaseLocked → h.phacc = s.phacc) := by
  rw [activeSel_eq]
  cases ht with
  | acquired cond lock freq phase phacc out =>
    obtain ⟨-, hfrom, -⟩ := cond
    rw [lock, hfrom]
    exact ⟨phase, fun | .freq, _ => freq | .phase, hne => absurd rfl hne, fun _ => phacc, fun hne => absurd rfl hne⟩
  | fellBack cond lock freq phase phacc out =>
    obtain ⟨-, hfrom, -⟩ := cond
    rw [lock, hfrom]
    exact ⟨freq, fun | .freq, hne => absurd rfl hne | .phase, _ => phase, (nomatch ·), fun _ => phacc⟩
  | stayed nacq nfall lock freq phase phacc out =>
    have hslot (sel : CtrlSel) : ctrlSlot h sel = ctrlSlot s sel := by cases sel <;> assumption
    rw [if_pos lock, if_pos lock]
    exact ⟨hslot _, fun sel _ => hslot sel, fun _ => phacc, fun _ => phacc⟩

/-- Settles O40: CONTROL_LOCKED on the state that HYSTERESIS leaves, with the slots as its transition left them. -/
theorem tickControls : Obligations.TickControls := by
  intro s ch1 ch2 avg hq hready hlocked
  refine ⟨sampleStep s ch1 ch2 avg, tick_next ch1 ch2 avg hq hready, ?_⟩
  obtain ⟨hactive, hother, haccPhase, haccFreq⟩ := (shape_transition s avg).slots
  have hstep := sampleStep_of_locked ch1 ch2 avg hlocked
  generalize hh : hysteresis (shape s avg) = h at hactive hother haccPhase haccFreq hstep
  generalize hu : phaseIntegrate h = u at hstep
  generalize sampleStep s ch1 ch2 avg = t at hstep
  intro active other v F acc shaped r
  have hul : u.lockState = h.lockState := by rw [← hu, phaseIntegrate_lockState]
  have hlock : t.lockState = h.lockState := by rw [← hul, hstep]; simp [controlLocked]
  have hpv : t.pv = h.pv := by rw [hstep, ← hu]; simp [controlLocked]
  have hphacc : t.phacc = u.phacc := by rw [hstep]; simp [controlLocked]
  have hconsumed : shapedPv u = shaped := by
    simp only [shaped, shapedPv_eq, hul, hlock, hphacc, hpv]
    rw [← hu, phaseIntegrate_pv]
  have hsel : active = activeSel h := by simp only [active, activeSel_eq, hlock]
  have hotherSel : other ≠ activeSel h := by
    simp only [other, activeSel_eq, hlock]
    split <;> decide
  have hsel' : activeSel u = active := by rw [hsel, activeSel_eq, activeSel_eq, hul]
  have hF : ctrlSlot h active = F := by simp only [F, v, hsel, hactive, hlock]; rfl
  have hslot (sel : CtrlSel) : ctrlSlot u sel = ctrlSlot h sel := by rw [← hu]; cases sel <;> simp
  have hr : activeUpdate u = r := by
    simp only [activeUpdate, r, hsel', hslot, hF, hconsumed]
    simp [← hu, ← hh]
  have htslot (sel : CtrlSel) : ctrlSlot t sel = if sel = active then r.1 else ctrlSlot h sel := by
    rw [← hr, ← hsel', ← hslot, ← controlLocked_ctrlSlot, hstep]
    cases sel <;> rfl
  refine ⟨fun hp => ?_, fun hp => ?_, ?_, ?_, ?_⟩
  · rw [hphacc, hpv, ← hu, phaseIntegrate_phacc, if_pos (hlock ▸ hp), haccPhase (hlock ▸ hp), ← hlock]
    simp [acc, ← hh]
  · rw [hphacc, ← hu, phaseIntegrate_phacc, if_neg (hlock ▸ hp), haccFreq (hlock ▸ hp)]
  · rw [htslot, if_pos rfl]
  · rw [htslot, if_neg (hsel ▸ hotherSel), hother _ hotherSel]
  · rw [hstep, ← hr]
    exact ⟨controlLocked_ctrl u, controlLocked_ctrlValid u, controlLocked_act u, controlLocked_actValid u⟩

/-! ### What a TICK never writes -/

/-- A TICK on an empty queue runs the sample step or nothing (R170, R172). -/
theorem exec_tick_of_empty {s t : State} {isNew : Bool} {ch1 ch2 avg : NUM} (hq : s.cq = [])
    (h : exec (.tick isNew ch1 ch2 avg) s = .next t) : t = s ∨ t = sampleStep s ch1 ch2 avg := by
  obtain ⟨u, hu, hcases⟩ := exec_tick_cases h
  have hus : u = s := by
    rw [hq, drain] at hu
    cases hu
    rw [← hq]
  subst hus
  exact hcases.imp (fun ⟨_, ht⟩ => ht) (fun ⟨_, _, ht⟩ => ht)

theorem sampleStep_sameParameters (s : State) (ch1 ch2 avg : NUM) :
    sameParameters (sampleStep s ch1 ch2 avg).freq s.freq ∧ sameParameters (sampleStep s ch1 ch2 avg).phase s.phase := by
  have hcontrol := controlStep_freq_same (phaseIntegrate (hysteresis (shape s avg)))
  have hhyst := hysteresis_same (shape s avg)
  rw [phaseIntegrate_freq, phaseIntegrate_phase] at hcontrol
  rw [shape_freq, shape_phase] at hhyst
  rw [sampleStep, emitSample_freq, emitSample_phase]
  exact ⟨sameParameters_trans hcontrol.1 hhyst.1, sameParameters_trans hcontrol.2 hhyst.2⟩

/-- SHAPE writes of the auxiliary slot its history only (R173). -/
theorem shape_aux_same (s : State) (avg : NUM) :
    (shape s avg).aux.valid = s.aux.valid ∧ (shape s avg).aux.coef = s.aux.coef := by
  cases huse : lpInUse s with
  | false => simp [shape_off avg huse]
  | true => simp [shape_on avg huse]

/-- Settles O41: a TICK without a sample changes nothing, and the sample step writes none of these. -/
theorem tickFrame : Obligations.TickFrame := by
  intro s t isNew ch1 ch2 avg hq h
  obtain rfl | rfl := exec_tick_of_empty hq h
  · exact ⟨rfl, rfl, rfl, rfl, rfl, rfl, rfl, hq, rfl, sameParameters_refl _, sameParameters_refl _, rfl, rfl,
      fun hl => ⟨rfl, rfl, rfl, rfl, hl⟩⟩
  · obtain ⟨hfreq, hphase⟩ := sampleStep_sameParameters s ch1 ch2 avg
    obtain ⟨hvalid, hcoef⟩ := shape_aux_same s avg
    refine ⟨?_, ?_, ?_, ?_, ?_, ?_, ?_, ?_, ?_, hfreq, hphase, ?_, ?_, fun hl => ?unlocked⟩
    case unlocked => rw [sampleStep_of_unlocked ch1 ch2 avg hl]; simp [controlUnlocked, emitSample, hl]
    all_goals simp [sampleStep, emitSample, hq, hvalid, hcoef]

/-! ### The lock state (R186) -/

/-- The commands that change the lock state are engage, disengage and leaving Phase mode. -/
theorem CommandWrites.lockState_cases {i : Instr} {s w : State} (h : CommandWrites s i w)
    (hne : w.lockState ≠ s.lockState) :
    (i = .lockB1 ∧ s.lockState = .unlocked ∧ w.lockState = .freqLocked ∧ s.freq.valid = true ∧
      (s.tgt = .phase → s.phase.valid = true) ∧ s.actEn = true) ∨
    (i = .lockB0 ∧ w.lockState = .unlocked) ∨
    (i = .modeB0 ∧ s.lockState = .phaseLocked ∧ w.lockState = .freqLocked) := by
  cases h
  case engage hlock hfreq hphase hact => exact .inl ⟨rfl, hlock, rfl, hfreq, hphase, hact⟩
  case disengage => exact .inr (.inl ⟨rfl, rfl⟩)
  case leavePhase hlock hfreq => exact .inr (.inr ⟨rfl, hlock, rfl⟩)
  case ctrlSlot => simp at hne
  all_goals exact absurd rfl hne

theorem eq_tick_of_not_command {i : Instr} (hi : isCommand i = false) :
    ∃ isNew ch1 ch2 avg, i = .tick isNew ch1 ch2 avg := by
  cases i
  case tick isNew ch1 ch2 avg => exact ⟨isNew, ch1, ch2, avg, rfl⟩
  all_goals cases hi

/-- Settles O43: commands by the table of their writes, TICK by the transition of its sample step. -/
theorem lockStateTransitions : Obligations.LockStateTransitions := by
  intro i s t hq h hne
  cases hi : isCommand i with
  | true =>
    obtain ⟨e, -, rfl⟩ | ⟨w, hw, rfl⟩ := exec_command_cases hi h
    · exact absurd rfl hne
    · obtain hengage | hdisengage | hleave := hw.lockState_cases hne
      · exact .inl hengage
      · exact .inr (.inl hdisengage)
      · exact .inr (.inr (.inl hleave))
  | false =>
    obtain ⟨isNew, ch1, ch2, avg, rfl⟩ := eq_tick_of_not_command hi
    obtain rfl | rfl := exec_tick_of_empty hq h
    · exact absurd rfl hne
    · rw [sampleStep_lockState_eq] at hne ⊢
      split at hne
      case isTrue hacq =>
        obtain ⟨hp, hl, hc⟩ := hacq
        exact .inr (.inr (.inr (.inl ⟨rfl, hl, ((pursuing_iff s).1 hp).2, hc, if_pos ⟨hp, hl, hc⟩⟩)))
      case isFalse hnacq =>
        split at hne
        case isTrue hfall =>
          obtain ⟨hp, hl, hc⟩ := hfall
          exact .inr (.inr (.inr (.inr ⟨rfl, hl, ((pursuing_iff s).1 hp).2, BitVec.eq_of_toNat_eq hc,
            (if_neg hnacq).trans (if_pos ⟨hp, hl, hc⟩)⟩)))
        case isFalse => exact absurd rfl hne

/-! ### Phase-lock acquisition (R187) -/

/-- EV_PHASE_ACQ is put out on the tick of an acquisition only (R178). -/
theorem evPhaseAcq_mem_sampleStep_iff {s : State} (ch1 ch2 avg : NUM) (hout : s.out = []) :
    Output.evPhaseAcq ∈ (sampleStep s ch1 ch2 avg).out ↔ acquires s (sampleStep s ch1 ch2 avg).cnt := by
  rw [sampleStep_out, ← hysteresis_shape_cnt ch1 ch2 avg]
  cases shape_transition s avg with
  | acquired cond lock freq phase phacc out => exact iff_of_true (by simp [out]) cond
  | fellBack cond lock freq phase phacc out =>
    exact iff_of_false (by simp [out, hout]) fun ⟨_, hl, _⟩ => nomatch hl.symm.trans cond.2.1
  | stayed nacq nfall lock freq phase phacc out => exact iff_of_false (by simp [out, hout]) nacq

/-- The engine pursues phase lock, with shaping off and an empty queue, and its last `j` ticks were in margin, since the counter
was at zero. -/
structure PursuedFor (j : Nat) (s : State) : Prop where
  inv : s.Inv
  tgt : s.tgt = .phase
  cq : s.cq = []
  lpReq : s.lpReq = false
  lpEff : s.lpEff = false
  cnt : s.cnt.toNat = min j s.cfg.counterLimit
  lockState : s.lockState = if j < s.cfg.counterLimit then .freqLocked else .phaseLocked

namespace PursuedFor

variable {j : Nat} {s : State}

theorem lpInUse_eq (h : PursuedFor j s) : lpInUse s = false := by
  unfold lpInUse
  split
  · exact h.lpReq
  · exact h.lpEff

theorem pursuing_eq (h : PursuedFor j s) : pursuing s = true := by
  refine (pursuing_iff s).2 ⟨?_, h.tgt⟩
  rw [h.lockState]
  split <;> decide

theorem beginOp (h : PursuedFor j s) (rest : List Op) : PursuedFor j (beginOp s rest) :=
  { h with inv := inv_beginOp rest h.inv }

theorem counterLimit_pos (h : PursuedFor j s) : 1 ≤ s.cfg.counterLimit := by
  have hcfg := h.inv.cfgOk
  simp only [cfgValid, Bool.and_eq_true, decide_eq_true_eq] at hcfg
  exact hcfg.1.2

/-- One more tick in margin. -/
theorem cnt_sampleStep (h : PursuedFor j s) (ch1 ch2 : NUM) {avg : NUM}
    (hgood : flt (fabs (fsub s.sp avg)) s.cfg.margin = true) :
    (sampleStep s ch1 ch2 avg).cnt.toNat = min (j + 1) s.cfg.counterLimit := by
  have hmargin : inMargin (shape s avg) = true := by
    rw [shape_off avg h.lpInUse_eq]
    exact hgood
  have hcfg : cfgValid (shape s avg).cfg = true := by
    rw [shape_cfg]
    exact h.inv.cfgOk
  rw [sampleStep_cnt, if_pos h.pursuing_eq, countStep_cnt_of_inMargin hcfg hmargin, shape_cnt, shape_cfg, h.cnt]
  split <;> omega

theorem sampleStep (h : PursuedFor j s) (ch1 ch2 : NUM) {avg : NUM}
    (hgood : flt (fabs (fsub s.sp avg)) s.cfg.margin = true) : PursuedFor (j + 1) (sampleStep s ch1 ch2 avg) := by
  obtain ⟨hsizes, hcfg, -, hcq, htgt, hlpReq, -⟩ := sampleStep_frame s ch1 ch2 avg
  refine
    { inv := sampleStep_inv ch1 ch2 avg h.inv
      tgt := htgt.trans h.tgt
      cq := hcq.trans h.cq
      lpReq := hlpReq.trans h.lpReq
      lpEff := (sampleStep_lpEff ..).trans h.lpReq
      cnt := by rw [h.cnt_sampleStep ch1 ch2 hgood, hcfg]
      lockState := ?_ }
  have hpos := h.counterLimit_pos
  rw [sampleStep_lockState_eq, h.cnt_sampleStep ch1 ch2 hgood, hcfg, h.lockState]
  by_cases hj : j < s.cfg.counterLimit
  · by_cases hj' : j + 1 < s.cfg.counterLimit
    · simp [hj, hj', h.pursuing_eq]
      omega
    · simp [hj, hj', h.pursuing_eq]
      omega
  · have hj' : ¬j + 1 < s.cfg.counterLimit := by omega
    simp [hj, hj']
    omega

/-- The tick that acquires is the one that brings the counter to `L`. -/
theorem acquires_iff (h : PursuedFor j s) (ch1 ch2 : NUM) {avg : NUM}
    (hgood : flt (fabs (fsub s.sp avg)) s.cfg.margin = true) :
    acquires s (Machine.sampleStep s ch1 ch2 avg).cnt ↔ j + 1 = s.cfg.counterLimit := by
  have hfreq : s.lockState = .freqLocked ↔ j < s.cfg.counterLimit := by
    rw [h.lockState]
    split <;> simp_all
  rw [acquires, h.cnt_sampleStep ch1 ch2 hgood, hfreq, and_iff_right h.pursuing_eq]
  omega

end PursuedFor

/-- The record of a TICK with a new sample (R93). -/
def tickOp (p : NUM × NUM × NUM) : Op := .tick (BitVec.ofBool true ++ p.1 ++ p.2.1 ++ p.2.2)

theorem PursuedFor.step_eq {j : Nat} {s : State} (h : PursuedFor j s) {p : NUM × NUM × NUM} {rest : List Op}
    (hinbox : s.inbox = tickOp p :: rest) :
    step s = .next (Machine.sampleStep (Machine.beginOp s rest) p.1 p.2.1 p.2.2) := by
  rw [step_tick h.inv.sizesOk h.inv.cfgOk (by rw [hinbox, tickOp, nextOp_tick]), decodeTick_record]
  exact tick_next _ _ _ h.cq (slotsReady_of_inv (inv_beginOp rest h.inv))

/-- A run of ticks in margin, with what the last of them has put out. -/
theorem run_ticks_inMargin {j : Nat} {s : State} {ticks : List (NUM × NUM × NUM)} (h : PursuedFor j s)
    (hinbox : s.inbox = ticks.map tickOp)
    (hgood : ∀ p ∈ ticks, flt (fabs (fsub s.sp p.2.2)) s.cfg.margin = true) {k : Nat} (hk : k < ticks.length) :
    ∃ t, Host.Core.run core (k + 1) s = .next t ∧ PursuedFor (j + (k + 1)) t ∧ t.cfg = s.cfg ∧
      (Output.evPhaseAcq ∈ t.out ↔ j + (k + 1) = s.cfg.counterLimit) := by
  induction k generalizing j s ticks with
  | zero =>
    obtain ⟨p, ticks, rfl⟩ := List.exists_cons_of_length_pos hk
    have hp := hgood p List.mem_cons_self
    have hbegin := h.beginOp (ticks.map tickOp)
    refine ⟨_, run_succ_of_next core 0 (h.step_eq hinbox), hbegin.sampleStep p.1 p.2.1 hp,
      (sampleStep_frame ..).2.1, ?_⟩
    rw [evPhaseAcq_mem_sampleStep_iff _ _ _ rfl]
    exact hbegin.acquires_iff p.1 p.2.1 hp
  | succ k ih =>
    obtain ⟨p, ticks, rfl⟩ := List.exists_cons_of_length_pos (Nat.zero_lt_of_lt hk)
    have hp := hgood p List.mem_cons_self
    have hnext := (h.beginOp (ticks.map tickOp)).sampleStep p.1 p.2.1 hp
    obtain ⟨hsizes, hcfg, hinbox', -⟩ := sampleStep_frame (beginOp s (ticks.map tickOp)) p.1 p.2.1 p.2.2
    have hsp : (sampleStep (beginOp s (ticks.map tickOp)) p.1 p.2.1 p.2.2).sp = s.sp := by simp [sampleStep, beginOp]
    obtain ⟨t, hrun, ht, htcfg, htout⟩ := ih hnext hinbox'
      (fun q hq => by rw [hsp, hcfg]; exact hgood q (List.mem_cons_of_mem p hq)) (Nat.lt_of_succ_lt_succ hk)
    rw [hcfg, Nat.add_right_comm, Nat.add_assoc] at htout
    rw [Nat.add_right_comm, Nat.add_assoc] at ht
    exact ⟨t, (run_succ_of_next core (k + 1) (h.step_eq hinbox)).trans hrun, ht, htcfg.trans hcfg, htout⟩

/-- Settles O42: after `k` ticks the counter stands at `min k L`, and the `L`-th has put out EV_PHASE_ACQ. -/
theorem phaseLockAcquired : Obligations.PhaseLockAcquired := by
  intro s ticks hinv hlock htgt hcnt hcq hlpReq hlpEff hinbox hgood k hk hkn
  have hstart : PursuedFor 0 s :=
    { inv := hinv, tgt := htgt, cq := hcq, lpReq := hlpReq, lpEff := hlpEff, cnt := by rw [hcnt]; simp
      lockState := by
        have hcfg := hinv.cfgOk
        simp only [cfgValid, Bool.and_eq_true, decide_eq_true_eq] at hcfg
        rw [if_pos (by omega), hlock] }
  obtain ⟨k, rfl⟩ := Nat.exists_eq_add_of_le' hk
  obtain ⟨t, hrun, ht, hcfg, hout⟩ := run_ticks_inMargin hstart hinbox hgood (Nat.lt_of_succ_le hkn)
  have hcntT := ht.cnt
  have hlockT := ht.lockState
  rw [Nat.zero_add] at hout hcntT hlockT
  rw [hcfg] at hcntT hlockT
  refine ⟨t, hrun, fun hlt => ⟨?_, ?_, ?_⟩, fun heq => ⟨?_, ?_, ?_⟩, fun hgt => ⟨?_, ?_, ?_⟩⟩
  · rw [hlockT, if_pos hlt]
  · omega
  · rw [hout]; omega
  · rw [hlockT, if_neg (by omega)]
  · omega
  · rwa [hout]
  · rw [hlockT, if_neg (by omega)]
  · omega
  · rw [hout]; omega

end Sys2Proof.Proofs

/-!
PROOFS. Comparison by value, the bounds of an update, and NaN through an update (spec/00_scope.md R11, R12;
spec/41_control_filters.md R120 to R130; spec/70_reset_and_hazards.md R286).
-/

namespace Sys2Proof.Proofs

open Sys2Proof Sys2Proof.Machine

/- One theorem after the other, as in the tests: side by side each takes a thread, and its stack. -/
set_option Elab.async false

/-! ### Comparison (R11) -/

theorem numVal_le_iff (a b : NUM) : numVal a ≤ numVal b ↔ numKey a ≤ numKey b := by
  rw [← not_lt, numVal_lt_iff, ← numKey_lt_iff, not_lt]

theorem numVal_inj_iff (a b : NUM) : numVal a = numVal b ↔ numKey a = numKey b := by
  rw [le_antisymm_iff, le_antisymm_iff, numVal_le_iff, numVal_le_iff]

theorem compares_false_of_nan {a b : NUM} (h : isNaN a = true ∨ isNaN b = true) :
    flt a b = false ∧ fle a b = false ∧ feq a b = false := by
  rcases h with h | h <;> simp [flt, fle, feq, h]

/-- Settles O54: the keys are ordered as the values, and each comparison tests for NaN first. -/
theorem comparesByValue : Obligations.ComparesByValue := by
  intro a b
  refine ⟨fun ha hb => ?_, fun h => ?_⟩
  · have hna := isNaN_of_isFinite ha
    have hnb := isNaN_of_isFinite hb
    have hfeq : feq a b = true ↔ numVal a = numVal b := by simp [feq_eq, hna, hnb, numVal_inj_iff]
    have hfle : fle a b = true ↔ numVal a ≤ numVal b := by simp [fle_eq, hna, hnb, numVal_le_iff]
    exact ⟨flt_iff_numVal ha hb, hfle, hfeq, by rw [fne, Bool.not_eq_true', ← Bool.not_eq_true, hfeq]⟩
  · obtain ⟨hlt, hle, heq⟩ := compares_false_of_nan h
    exact ⟨hlt, hle, heq, by rw [fne, heq]; rfl⟩

/-! ### What an update of any kind leaves (R122, R124) -/

section Update

variable (taps : Nat) (dt : NUM) (F : CtrlSlot) (sp pv : NUM)

/-- INTSTEP comes first in every kind, and nothing after it writes `F.I`. -/
theorem cfUpdate_i : (cfUpdate taps dt F sp pv).1.i = (intStep dt F (ctrlError F sp pv)).i := by
  by_cases hkind : F.kind = .pid
  case pos => rw [cfUpdate_of_pid hkind]; rfl
  case neg =>
    rw [cfUpdate_of_loop hkind, loopUpdate, loopIntegrate_eq, loopLowpass_eq]
    rfl

theorem cfUpdate_ii (htwo : twoIntegrators F.kind = true) :
    (cfUpdate taps dt F sp pv).1.ii =
      clamp (fadd F.ii (int2Inc dt (intStep dt F (ctrlError F sp pv)))) F.intLo F.intHi := by
  have hkind : F.kind ≠ .pid := fun h => by simp [h, twoIntegrators] at htwo
  rw [cfUpdate_of_loop hkind, loopUpdate, loopIntegrate_eq, loopLowpass_eq, htwo]
  rfl

theorem cfUpdate_lastout : (cfUpdate taps dt F sp pv).1.lastout = (cfUpdate taps dt F sp pv).2 := by
  by_cases hkind : F.kind = .pid
  case pos => rw [cfUpdate_of_pid hkind]; rfl
  case neg => rw [cfUpdate_of_loop hkind]; rfl

/-- The output of a PID is the clamped sum of its three parts (R122). -/
theorem cfUpdate_result_of_pid (hkind : F.kind = .pid) :
    (cfUpdate taps dt F sp pv).2 =
      clamp (fmul F.gain (fadd (fadd (fmul F.kp (ctrlError F sp pv)) (intStep dt F (ctrlError F sp pv)).i)
        (pidDeriv dt F (ctrlError F sp pv)))) F.outLo F.outHi := by
  rw [cfUpdate_of_pid hkind]
  rfl

/-- The lowpass result of a Loop kind (R30, R124). -/
def lowpassResult (e : NUM) : NUM :=
  if twoLowpasses F.kind then (rfUpdate taps F.coef F.h2 (rfUpdate taps F.coef F.h1 e).2).2
  else (rfUpdate taps F.coef F.h1 e).2

/-- The output of a Loop kind is the clamped sum of its accumulators and its lowpass (R124). -/
theorem cfUpdate_result_of_loop (hkind : F.kind ≠ .pid) :
    (cfUpdate taps dt F sp pv).2 =
      clamp (fadd (loopAcc (twoIntegrators F.kind) (cfUpdate taps dt F sp pv).1)
        (lowpassResult taps F (ctrlError F sp pv))) F.outLo F.outHi := by
  rw [cfUpdate_of_loop hkind, loopUpdate, loopIntegrate_eq, loopLowpass_eq]
  rfl

end Update

/-- Settles O58: the last write of each of the three elements is a clamp. -/
theorem updateWithinBounds : Obligations.UpdateWithinBounds := by
  intro taps dt F sp pv hout hint r within
  have hclamp {lo hi : NUM} (hb : fle lo hi = true) (x : NUM) : within lo (clamp x lo hi) hi := fun hn =>
    clamp_within hb <| Bool.eq_false_iff.2 fun hx => by simp [clamp_nan hx, hx] at hn
  refine ⟨?_, ?_, cfUpdate_lastout .., fun hkind => ?_⟩
  · rw [cfUpdate_i]
    exact hclamp hint _
  · rw [cfUpdate_lastout]
    by_cases hkind : F.kind = .pid
    case pos => rw [cfUpdate_result_of_pid _ _ _ _ _ hkind]; exact hclamp hout _
    case neg => rw [cfUpdate_result_of_loop _ _ _ _ _ hkind]; exact hclamp hout _
  · rw [cfUpdate_ii _ _ _ _ _ ((twoIntegrators_iff F.kind).2 hkind)]
    exact hclamp hint _

/-! ### NaN (R286) -/

theorem isNaN_clamp {x : NUM} (lo hi : NUM) (h : isNaN x = true) : isNaN (clamp x lo hi) = true := by
  rw [clamp_nan h, h]

theorem isNaN_signed {v : NUM} (sign : Sign) (h : isNaN v = true) : isNaN (signed sign v) = true := by
  cases sign
  case plus => exact h
  case minus => exact (isNaN_fneg v).trans h

/-- The first integrator takes up a NaN from each of the four. -/
theorem isNaN_intStep (dt : NUM) {F : CtrlSlot} {sp pv : NUM}
    (h : isNaN sp = true ∨ isNaN pv = true ∨ isNaN F.eprev = true ∨ isNaN F.i = true) :
    isNaN (intStep dt F (ctrlError F sp pv)).i = true := by
  have herr (hd : isNaN sp = true ∨ isNaN pv = true) : isNaN (ctrlError F sp pv) = true :=
    isNaN_signed F.sign (fsub_nan hd)
  have hstep (hs : isNaN (ctrlError F sp pv) = true ∨ isNaN F.eprev = true) :
      isNaN (fadd F.i (fmul (fmul (fmul NUM.half F.ki) dt) (fadd (ctrlError F sp pv) F.eprev))) = true :=
    fadd_nan (.inr (fmul_nan (.inr (fadd_nan hs))))
  refine isNaN_clamp _ _ ?_
  obtain h | h | h | h := h
  · exact hstep (.inl (herr (.inl h)))
  · exact hstep (.inl (herr (.inr h)))
  · exact hstep (.inr h)
  · exact fadd_nan (.inl h)

/-- Settles O60: the first accumulator is a summand of the output in every kind. -/
theorem naNPropagates : Obligations.NaNPropagates := by
  intro taps dt F sp pv h
  have hi := isNaN_intStep dt h
  refine ⟨?_, by rwa [cfUpdate_i]⟩
  by_cases hkind : F.kind = .pid
  case pos =>
    rw [cfUpdate_result_of_pid _ _ _ _ _ hkind]
    exact isNaN_clamp _ _ (fmul_nan (.inr (fadd_nan (.inl (fadd_nan (.inr hi))))))
  case neg =>
    have hacc : isNaN (loopAcc (twoIntegrators F.kind) (cfUpdate taps dt F sp pv).1) = true := by
      rw [loopAcc, cfUpdate_i]
      split
      · exact fadd_nan (.inl hi)
      · exact hi
    rw [cfUpdate_result_of_loop _ _ _ _ _ hkind]
    exact isNaN_clamp _ _ (fadd_nan (.inl hacc))

end Sys2Proof.Proofs

/-!
PROOFS. NUM arithmetic on finite operands is the exact result rounded once (spec/00_scope.md R7, R11; decision D2).
-/

namespace Sys2Proof.Proofs

open Sys2Proof Sys2Proof.Machine

/- One theorem after the other, as in the tests: side by side each takes a thread, and its stack. -/
set_option Elab.async false

/-! ### Rounding a quotient to a whole number -/

theorem roundDiv_bounds (n d : Nat) : n / d ≤ roundDiv n d ∧ roundDiv n d ≤ n / d + 1 := by
  simp only [roundDiv]
  split
  · omega
  · split
    · omega
    · omega

/-- The whole number is at most one half off, and even when it is one half off. -/
theorem roundDiv_spec (n : Nat) {d : Nat} (hd : 0 < d) :
    2 * |(roundDiv n d : ℚ) - n / d| ≤ 1 ∧ (2 * |(roundDiv n d : ℚ) - n / d| = 1 → roundDiv n d % 2 = 0) := by
  have hdq : (0 : ℚ) < d := Nat.cast_pos.2 hd
  have hx : (n : ℚ) / d = (n / d : Nat) + ((n % d : Nat) : ℚ) / d := by
    rw [eq_comm, add_div' _ _ _ hdq.ne', div_left_inj' hdq.ne']
    exact_mod_cast Nat.div_add_mod' n d
  have hr0 : (0 : ℚ) ≤ ((n % d : Nat) : ℚ) / d := by positivity
  have hr1 : ((n % d : Nat) : ℚ) / d < 1 := (div_lt_one hdq).2 (Nat.cast_lt.2 (Nat.mod_lt n hd))
  rw [hx]
  simp only [roundDiv]
  split
  case isTrue hlow =>
    have hhalf : 2 * (((n % d : Nat) : ℚ) / d) < 1 := by
      rw [← mul_div_assoc, div_lt_one hdq]
      exact_mod_cast hlow
    rw [sub_add_cancel_left, abs_neg, abs_of_nonneg hr0]
    exact ⟨hhalf.le, fun h => absurd h hhalf.ne⟩
  case isFalse hnlow =>
    split
    case isTrue hhigh =>
      have hhalf : 1 < 2 * (((n % d : Nat) : ℚ) / d) := by
        rw [← mul_div_assoc, one_lt_div hdq]
        exact_mod_cast hhigh
      rw [Nat.cast_add, Nat.cast_one, add_sub_add_left_eq_sub, abs_of_pos (sub_pos.2 hr1)]
      exact ⟨by linarith, fun h => by linarith⟩
    case isFalse hnhigh =>
      have hhalf : ((n % d : Nat) : ℚ) / d = 1 / 2 := by
        have h2 : 2 * (n % d) = d := by omega
        rw [div_eq_div_iff hdq.ne' two_ne_zero, one_mul, mul_comm]
        exact_mod_cast h2
      refine ⟨?_, fun _ => by omega⟩
      rw [hhalf, Nat.cast_add, add_sub_add_left_eq_sub]
      obtain h | h := Nat.mod_two_eq_zero_or_one (n / d) <;> rw [h] <;> norm_num [abs_of_pos]

/-- A natural number at most one half off is a nearest one, and the only one unless it is one half off. -/
theorem nearest_natural {r : Nat} {x : ℚ} (h : 2 * |(r : ℚ) - x| ≤ 1) (i : Nat) :
    |(r : ℚ) - x| ≤ |(i : ℚ) - x| ∧ (|(i : ℚ) - x| = |(r : ℚ) - x| → i ≠ r → 2 * |(r : ℚ) - x| = 1) := by
  by_cases hir : i = r
  case pos => exact ⟨by rw [hir], fun _ hne => absurd hir hne⟩
  case neg =>
    have hstep : (1 : ℚ) ≤ |(i : ℚ) - r| := by
      have hint : 1 ≤ |(i : ℤ) - r| := Int.one_le_abs (by omega)
      exact_mod_cast hint
    have htri := abs_sub_le (i : ℚ) x r
    rw [abs_sub_comm x] at htri
    exact ⟨by linarith, fun htie _ => by linarith⟩

/-! ### The grid of the NUMs: neighbours are `2^k` units apart -/

theorem unitsOf_zero : unitsOf 0 = 0 := by decide

/-- Bits 62:0 `k·2^52 + r` stand for `r` steps of `2^k` units, also where `r` carries to the next size. -/
theorem unitsOf_grid {k r : Nat} (hr : r ≤ 2 ^ 53) (hk : k = 0 ∨ 2 ^ 52 ≤ r) : unitsOf (k * 2 ^ 52 + r) = r * 2 ^ k := by
  obtain hlow | hmid | htop : r < 2 ^ 52 ∨ 2 ^ 52 ≤ r ∧ r < 2 ^ 53 ∨ r = 2 ^ 53 := by omega
  case inl =>
    obtain rfl : k = 0 := by omega
    have hdiv : (0 * 2 ^ 52 + r) / 2 ^ 52 = 0 := by omega
    have hmod : (0 * 2 ^ 52 + r) % 2 ^ 52 = r := by omega
    rw [unitsOf, hdiv, hmod, if_pos rfl, pow_zero, mul_one]
  case inr.inl =>
    have hdiv : (k * 2 ^ 52 + r) / 2 ^ 52 = k + 1 := by omega
    have hmod : (k * 2 ^ 52 + r) % 2 ^ 52 = r - 2 ^ 52 := by omega
    rw [unitsOf, hdiv, hmod, if_neg (Nat.succ_ne_zero k), Nat.add_sub_cancel, Nat.add_sub_cancel' hmid.1]
  case inr.inr =>
    have hdiv : (k * 2 ^ 52 + r) / 2 ^ 52 = k + 2 := by omega
    have hmod : (k * 2 ^ 52 + r) % 2 ^ 52 = 0 := by omega
    rw [unitsOf, hdiv, hmod, if_neg (Nat.succ_ne_zero _), htop, Nat.add_sub_cancel_right (n := k + 1) (m := 1), pow_succ 2 k]
    ring

/-- A NUM off the grid of `2^k` units lies below all that need this grid. -/
theorem unitsOf_grid_or_below (m k : Nat) : (∃ i, unitsOf m = i * 2 ^ k) ∨ k ≠ 0 ∧ unitsOf m < 2 ^ 52 * 2 ^ k := by
  rcases Nat.eq_zero_or_pos k with rfl | hk
  case inl => exact .inl ⟨unitsOf m, by rw [pow_zero, mul_one]⟩
  case inr =>
    rw [unitsOf]
    split
    case isTrue hsub =>
      have hpow : 1 ≤ 2 ^ k := Nat.one_le_two_pow
      exact .inr ⟨hk.ne', by nlinarith [Nat.mod_lt m (show 0 < 2 ^ 52 by decide)]⟩
    case isFalse hnormal =>
      by_cases hgrid : k ≤ m / 2 ^ 52 - 1
      case pos =>
        refine .inl ⟨(2 ^ 52 + m % 2 ^ 52) * 2 ^ (m / 2 ^ 52 - 1 - k), ?_⟩
        rw [mul_assoc, ← pow_add, Nat.sub_add_cancel hgrid]
      case neg =>
        refine .inr ⟨hk.ne', ?_⟩
        calc (2 ^ 52 + m % 2 ^ 52) * 2 ^ (m / 2 ^ 52 - 1)
            < 2 ^ 53 * 2 ^ (m / 2 ^ 52 - 1) := Nat.mul_lt_mul_of_pos_right (by omega) (by positivity)
          _ ≤ 2 ^ 53 * 2 ^ (k - 1) := Nat.mul_le_mul_left _ (Nat.pow_le_pow_right two_pos (by omega))
          _ = 2 ^ 52 * 2 ^ k := by
            obtain ⟨j, rfl⟩ := Nat.exists_eq_add_of_le' hk
            rw [Nat.add_sub_cancel, pow_succ]
            ring

/-! ### Nearest, ties to even -/

/-- Bits 62:0 `m` stand for the value nearest to `q` units, and for the even one of two equally near. Sizes beyond the largest
finite NUM are counted in, as if the exponent field had no end. -/
def Nearest (m : Nat) (q : ℚ) : Prop :=
  ∀ j, |(unitsOf m : ℚ) - q| ≤ |(unitsOf j : ℚ) - q| ∧
    (|(unitsOf j : ℚ) - q| = |(unitsOf m : ℚ) - q| → j ≠ m → m % 2 = 0)

/-- What rounds beyond an odd `m'`: all from the middle between it and the next one on. -/
theorem Nearest.lt_iff {m m' : Nat} {q : ℚ} (h : Nearest m q) (hodd : m' % 2 = 1) :
    m' < m ↔ (unitsOf m' : ℚ) + unitsOf (m' + 1) ≤ 2 * q := by
  have hstep : (unitsOf m' : ℚ) < unitsOf (m' + 1) := Nat.cast_lt.2 (unitsOf_strictMono (Nat.lt_succ_self m'))
  constructor
  · intro hlt
    by_contra! hbelow
    have hge : (unitsOf (m' + 1) : ℚ) ≤ unitsOf m := Nat.cast_le.2 (unitsOf_strictMono.monotone hlt)
    have hnear := (h m').1
    rw [abs_of_nonneg (by linarith : (0 : ℚ) ≤ unitsOf m - q)] at hnear
    obtain habs | habs := abs_cases ((unitsOf m' : ℚ) - q) <;> linarith
  · intro hmid
    by_contra! hle
    have hle' : (unitsOf m : ℚ) ≤ unitsOf m' := Nat.cast_le.2 (unitsOf_strictMono.monotone hle)
    obtain ⟨hnear, htie⟩ := h (m' + 1)
    rw [abs_of_nonpos (by linarith : (unitsOf m : ℚ) - q ≤ 0)] at hnear htie
    have heq : (unitsOf m : ℚ) = unitsOf m' := by
      obtain habs | habs := abs_cases ((unitsOf (m' + 1) : ℚ) - q) <;> linarith
    have hmm : m = m' := unitsOf_strictMono.injective (Nat.cast_injective heq)
    have heven := htie (by obtain habs | habs := abs_cases ((unitsOf (m' + 1) : ℚ) - q) <;> linarith) (by omega)
    omega

/-- The bits 62:0 that `roundUnits` computes before it looks for an overflow. -/
def roundedBits (n d : Nat) : Nat :=
  ((n / d).log2 - 52) * 2 ^ 52 + roundDiv n (d * 2 ^ ((n / d).log2 - 52))

theorem roundUnits_eq (neg : Bool) (n d : Nat) :
    roundUnits neg n d = packNum neg (if infField ≤ roundedBits n d then infField else roundedBits n d) := rfl

/-- The spacing of the grid suits the quotient: it has at most 53 bits before the point, and exactly 53 unless the spacing is one
unit. -/
theorem quotient_bits (N : Nat) :
    N / 2 ^ (N.log2 - 52) < 2 ^ 53 ∧ (N.log2 - 52 = 0 ∨ 2 ^ 52 ≤ N / 2 ^ (N.log2 - 52)) := by
  constructor
  · rw [Nat.div_lt_iff_lt_mul (by positivity), ← pow_add]
    exact Nat.lt_log2_self.trans_le (Nat.pow_le_pow_right two_pos (by omega))
  · refine or_iff_not_imp_left.2 fun hk => ?_
    have hN : N ≠ 0 := by
      rintro rfl
      exact hk rfl
    rw [Nat.le_div_iff_mul_le (by positivity), ← pow_add, Nat.add_sub_cancel' (by omega)]
    exact Nat.log2_self_le hN

theorem roundedBits_nearest (n : Nat) {d : Nat} (hd : 0 < d) : Nearest (roundedBits n d) ((n : ℚ) / d) := by
  intro j
  obtain ⟨hbits, hfull⟩ := quotient_bits (n / d)
  rw [roundedBits]
  generalize (n / d).log2 - 52 = k at hbits hfull ⊢
  rw [Nat.div_div_eq_div_mul] at hbits hfull
  have hD : 0 < d * 2 ^ k := by positivity
  obtain ⟨hlo, hhi⟩ := roundDiv_bounds n (d * 2 ^ k)
  obtain ⟨hhalf, heven⟩ := roundDiv_spec n hD
  have hsmall : (n / (d * 2 ^ k) : Nat) ≤ (n : ℚ) / (d * 2 ^ k : Nat) := Nat.cast_div_le
  have hscale (u : ℚ) : |u * 2 ^ k - (n : ℚ) / d| = 2 ^ k * |u - (n : ℚ) / (d * 2 ^ k : Nat)| := by
    have hk : (0 : ℚ) < 2 ^ k := by positivity
    have hdq : (d : ℚ) ≠ 0 := Nat.cast_ne_zero.2 hd.ne'
    rw [← abs_of_pos hk, ← abs_mul, abs_of_pos hk]
    congr 1
    push_cast
    field_simp
  have hcast (i : Nat) : ((i * 2 ^ k : Nat) : ℚ) = i * 2 ^ k := by push_cast; rfl
  rw [unitsOf_grid (by omega) (by omega), hcast (roundDiv _ _), hscale]
  have hgrid (i : Nat) := nearest_natural hhalf i
  have hpow : (0 : ℚ) < 2 ^ k := by positivity
  obtain ⟨i, hi⟩ | ⟨hk, hbelow⟩ := unitsOf_grid_or_below j k
  case inl =>
    rw [hi, hcast i, hscale]
    refine ⟨mul_le_mul_of_nonneg_left (hgrid i).1 hpow.le, fun htie hne => ?_⟩
    have hir : i ≠ roundDiv n (d * 2 ^ k) := by
      rintro rfl
      rw [← unitsOf_grid (by omega) (by omega)] at hi
      exact hne (unitsOf_strictMono.injective hi)
    have := heven ((hgrid i).2 (mul_left_cancel₀ hpow.ne' htie) hir)
    omega
  case inr =>
    have hx : (2 : ℚ) ^ 52 ≤ (n : ℚ) / (d * 2 ^ k : Nat) := le_trans (by exact_mod_cast hfull.resolve_left hk) hsmall
    have hu : (unitsOf j : ℚ) / 2 ^ k < 2 ^ 52 := by
      rw [div_lt_iff₀ hpow]
      exact_mod_cast hbelow
    have hnear := (hgrid (2 ^ 52)).1
    rw [Nat.cast_pow, Nat.cast_ofNat, abs_of_nonpos (sub_nonpos.2 hx)] at hnear
    have hlt : |(roundDiv n (d * 2 ^ k) : ℚ) - (n : ℚ) / (d * 2 ^ k : Nat)| <
        |(unitsOf j : ℚ) / 2 ^ k - (n : ℚ) / (d * 2 ^ k : Nat)| := by
      rw [abs_of_neg (sub_neg.2 (hu.trans_le hx))]
      linarith
    rw [← div_mul_cancel₀ (unitsOf j : ℚ) hpow.ne', hscale]
    have hlt' := mul_lt_mul_of_pos_left hlt hpow
    exact ⟨hlt'.le, fun htie => absurd htie hlt'.ne'⟩

/-! ### A NUM from its sign and its bits 62:0 -/

theorem packNum_toNat (neg : Bool) {low : Nat} (h : low < 2 ^ 63) :
    (packNum neg low).toNat = (if neg then 2 ^ 63 else 0) + low := by
  rw [packNum, BitVec.toNat_ofNat, Nat.mod_eq_of_lt]
  split <;> omega

theorem signBit_packNum (neg : Bool) {low : Nat} (h : low < 2 ^ 63) : signBit (packNum neg low) = neg := by
  rw [signBit, packNum_toNat neg h]
  cases neg
  case true => exact decide_eq_true (Nat.le_add_right _ low)
  case false => exact decide_eq_false (by simpa using h)

theorem magField_packNum (neg : Bool) {low : Nat} (h : low < 2 ^ 63) : magField (packNum neg low) = low := by
  rw [magField, packNum_toNat neg h]
  split <;> omega

theorem isFinite_iff (x : NUM) : isFinite x = true ↔ magField x < infField := by
  obtain ⟨-, hexp, hfrac, hmag⟩ := num_bits x
  rw [isFinite, bne_iff_ne, hmag, infField]
  omega

theorem isInf_iff (x : NUM) : isInf x = true ↔ magField x = infField := by
  obtain ⟨-, hexp, hfrac, hmag⟩ := num_bits x
  rw [isInf, Bool.and_eq_true, beq_iff_eq, beq_iff_eq, hmag, infField]
  omega

theorem fracField_mod_two (x : NUM) : fracField x % 2 = magField x % 2 := by
  rw [fracField, magField]
  omega

/-- The sign as a factor. -/
def sgn (neg : Bool) : ℚ := if neg then -1 else 1

theorem numVal_eq_sgn (x : NUM) : numVal x = sgn (signBit x) * unitsOf (magField x) / oneMag := by
  rw [numVal_eq, numFix, ← numMag_eq, sgn]
  split
  · rw [Int.cast_neg, Int.cast_natCast, neg_one_mul]
  · rw [Int.cast_natCast, one_mul]

theorem abs_sgn_mul (neg : Bool) (u : ℚ) : |sgn neg * u| = |u| := by
  cases neg <;> simp [sgn]

/-- Signed values of the same sign are as far apart as their sizes, those of opposite signs as far as the sum of the sizes. -/
theorem abs_sgn_sub (a b : Bool) {u x : ℚ} (hu : 0 ≤ u) (hx : 0 ≤ x) :
    |sgn a * u - sgn b * x| = if a = b then |u - x| else u + x := by
  cases a <;> cases b <;> simp only [sgn, if_true, if_false, Bool.false_eq_true, reduceCtorEq, one_mul, neg_one_mul]
  · rw [sub_neg_eq_add, abs_of_nonneg (add_nonneg hu hx)]
  · rw [← neg_add', abs_neg, abs_of_nonneg (add_nonneg hu hx)]
  · rw [neg_sub_neg, abs_sub_comm]

/-! ### The result of a rounding (R7) -/

/-- The first value that rounds beyond the largest finite NUM, in units. -/
theorem infField_le_iff {m : Nat} {x : ℚ} (h : Nearest m x) :
    infField ≤ m ↔ (2 ^ 1024 - 2 ^ 970 : ℚ) * oneMag ≤ x := by
  have hmid : (unitsOf (infField - 1) : ℚ) + unitsOf (infField - 1 + 1) = 2 * ((2 ^ 1024 - 2 ^ 970 : ℚ) * oneMag) := by
    have hnat : unitsOf (infField - 1) + unitsOf (infField - 1 + 1) + 2 * (2 ^ 970 * oneMag) = 2 * (2 ^ 1024 * oneMag) := by
      decide +kernel
    have hcast := congrArg (Nat.cast : Nat → ℚ) hnat
    simp only [Nat.cast_add, Nat.cast_mul, Nat.cast_pow, Nat.cast_ofNat] at hcast
    generalize (2 : ℚ) ^ 970 = below at hcast ⊢
    generalize (2 : ℚ) ^ 1024 = above at hcast ⊢
    linarith
  have hlt := h.lt_iff (m' := infField - 1) (by decide)
  rw [hmid, mul_le_mul_iff_right₀ two_pos] at hlt
  rw [← hlt, infField]
  omega

theorem roundUnits_of_finite (neg : Bool) {n d : Nat} (h : ¬infField ≤ roundedBits n d) :
    roundUnits neg n d = packNum neg (roundedBits n d) := by
  rw [roundUnits_eq, if_neg h]

theorem signBit_roundUnits (neg : Bool) (n d : Nat) : signBit (roundUnits neg n d) = neg := by
  rw [roundUnits_eq]
  refine signBit_packNum neg ?_
  have : infField < 2 ^ 63 := by decide
  split <;> omega

/-- A finite result is nearest among the NUMs of both signs: one of the other sign is no nearer than zero. -/
theorem nearest_of_both_signs {neg : Bool} {x : ℚ} (hx : 0 ≤ x) {r : NUM} (hsign : signBit r = neg)
    (hnear : Nearest (magField r) x) (y : NUM) :
    |numVal r - sgn neg * x / oneMag| ≤ |numVal y - sgn neg * x / oneMag| ∧
      (|numVal y - sgn neg * x / oneMag| = |numVal r - sgn neg * x / oneMag| → numVal y ≠ numVal r →
        fracField r % 2 = 0) := by
  have hone : (0 : ℚ) < oneMag := Nat.cast_pos.2 oneMag_pos
  have hdist (z : NUM) : |numVal z - sgn neg * x / oneMag| =
      (if signBit z = neg then |(unitsOf (magField z) : ℚ) - x| else unitsOf (magField z) + x) / oneMag := by
    rw [numVal_eq_sgn, ← sub_div, abs_div, abs_of_pos hone, abs_sgn_sub _ _ (Nat.cast_nonneg _) hx]
  have hne (h : numVal y ≠ numVal r) : signBit y = neg → magField y ≠ magField r := by
    rintro hy hm
    exact h (by rw [num_ext (hy.trans hsign.symm) hm])
  rw [hdist, hdist, hsign, if_pos rfl, div_le_div_iff_of_pos_right hone, div_left_inj' hone.ne', fracField_mod_two]
  by_cases hy : signBit y = neg
  case pos =>
    rw [if_pos hy]
    exact ⟨(hnear _).1, fun htie h => (hnear _).2 htie (hne h hy)⟩
  case neg =>
    obtain ⟨hzero, htieZero⟩ := hnear 0
    rw [unitsOf_zero, Nat.cast_zero, zero_sub, abs_neg, abs_of_nonneg hx] at hzero htieZero
    have hu : (0 : ℚ) ≤ unitsOf (magField y) := Nat.cast_nonneg _
    rw [if_neg hy]
    clear hdist hone
    refine ⟨by linarith, fun htie _ => ?_⟩
    by_cases hm : magField r = 0
    case pos => rw [hm]
    case neg => exact htieZero (by linarith) (Ne.symm hm)

theorem roundsTo_roundUnits (neg : Bool) (n : Nat) {d : Nat} (hd : 0 < d) :
    RoundsTo (sgn neg * (n / d : ℚ) / oneMag) (roundUnits neg n d) := by
  have hone : (0 : ℚ) < oneMag := Nat.cast_pos.2 oneMag_pos
  have hx : (0 : ℚ) ≤ n / d := div_nonneg (Nat.cast_nonneg n) (Nat.cast_nonneg d)
  have hnear := roundedBits_nearest n hd
  have hover := infField_le_iff hnear
  have habs : |sgn neg * (n / d : ℚ) / oneMag| = (n / d : ℚ) / oneMag := by
    rw [abs_div, abs_sgn_mul, abs_of_pos hone, abs_of_nonneg hx]
  have hsmall : infField < 2 ^ 63 := by decide
  refine ⟨fun hq => ?_, fun hq => ?_, fun hq => ?_, fun hq => ?_⟩
  · rw [habs, div_lt_iff₀ hone, ← not_le, ← hover] at hq
    have hmag : magField (roundUnits neg n d) = roundedBits n d := by
      rw [roundUnits_of_finite neg hq, magField_packNum neg (by omega)]
    refine ⟨(isFinite_iff _).2 (by omega), fun y _ => ?_⟩
    exact nearest_of_both_signs hx (signBit_roundUnits neg n d) (hmag ▸ hnear) y
  · rw [habs, le_div_iff₀ hone, ← hover] at hq
    rw [isInf_iff, roundUnits_eq, if_pos hq, magField_packNum neg hsmall]
  · rw [signBit_roundUnits]
    by_contra hneg
    have : (0 : ℚ) ≤ sgn neg * (n / d) / oneMag := by
      rw [sgn, if_neg hneg, one_mul]
      exact div_nonneg hx hone.le
    exact absurd hq (not_lt.2 this)
  · rw [signBit_roundUnits, ← Bool.not_eq_true]
    intro hneg
    have : sgn neg * (n / d : ℚ) / oneMag ≤ 0 := by
      rw [sgn, if_pos hneg, neg_one_mul, neg_div, Left.neg_nonpos_iff]
      exact div_nonneg hx hone.le
    exact absurd hq (not_lt.2 this)

/-! ### The operations on finite operands (R11) -/

theorem signBit_eq_msb (x : NUM) : signBit x = x.msb := (BitVec.msb_eq_decide x).symm

theorem signBit_fneg (x : NUM) : signBit (fneg x) = !signBit x := by
  rw [signBit_eq_msb, signBit_eq_msb, fneg, BitVec.msb_xor]
  exact Bool.xor_true _

theorem magField_fneg (x : NUM) : magField (fneg x) = magField x := by
  have hlow : (fneg x).setWidth 63 = x.setWidth 63 := by
    rw [fneg, BitVec.setWidth_xor]
    exact BitVec.xor_zero
  exact congrArg BitVec.toNat hlow

theorem numVal_fneg (x : NUM) : numVal (fneg x) = -numVal x := by
  rw [numVal_eq_sgn, numVal_eq_sgn, signBit_fneg, magField_fneg]
  cases signBit x
  case false => simp only [sgn, Bool.not_false, if_true, if_false, Bool.false_eq_true, neg_one_mul, one_mul, neg_div]
  case true =>
    simp only [sgn, Bool.not_true, if_true, if_false, Bool.false_eq_true, neg_one_mul, one_mul, neg_div, neg_neg]

theorem isFinite_fneg (x : NUM) : isFinite (fneg x) = isFinite x :=
  Bool.eq_iff_iff.2 (by rw [isFinite_iff, isFinite_iff, magField_fneg])

theorem isInf_of_isFinite {x : NUM} (h : isFinite x = true) : isInf x = false := by
  rw [← Bool.not_eq_true, isInf_iff]
  exact ((isFinite_iff x).1 h).ne

theorem roundUnits_zero (neg : Bool) (d : Nat) : roundUnits neg 0 d = packNum neg 0 := by
  have hbits : roundedBits 0 d = 0 := by simp [roundedBits, roundDiv]
  rw [roundUnits_eq, hbits]
  rfl

theorem sgn_bne (a b : Bool) : sgn (a != b) = sgn a * sgn b := by
  cases a <;> cases b <;> simp [sgn]

theorem sgn_inv (a : Bool) : (sgn a)⁻¹ = sgn a := by
  cases a <;> norm_num [sgn]

theorem sgn_mul_natAbs {neg : Bool} (s : Int) (h : s ≠ 0 → neg = decide (s < 0)) :
    sgn neg * (s.natAbs : ℚ) = s := by
  obtain hs | rfl | hs := lt_trichotomy s 0
  · rw [h hs.ne, decide_eq_true hs, ← Int.cast_natCast, Int.ofNat_natAbs_of_nonpos hs.le]
    simp [sgn]
  · simp
  · rw [h hs.ne', decide_eq_false hs.not_gt, ← Int.cast_natCast, Int.natAbs_of_nonneg hs.le]
    simp [sgn]

section Finite

variable {a b : NUM} (ha : isFinite a = true) (hb : isFinite b = true)

include ha hb

theorem fadd_of_finite :
    fadd a b = roundUnits (if numFix a + numFix b = 0 then signBit a && signBit b else decide (numFix a + numFix b < 0))
      (numFix a + numFix b).natAbs 1 := by
  simp only [fadd, isNaN_of_isFinite ha, isNaN_of_isFinite hb, isInf_of_isFinite ha, isInf_of_isFinite hb,
    Bool.or_self, Bool.false_eq_true, if_false]
  split
  case isTrue hzero => rw [hzero, Int.natAbs_zero, roundUnits_zero]
  case isFalse => rfl

theorem fmul_of_finite :
    fmul a b = roundUnits (signBit a != signBit b) (numMag a * numMag b) oneMag := by
  simp only [fmul, isNaN_of_isFinite ha, isNaN_of_isFinite hb, isInf_of_isFinite ha, isInf_of_isFinite hb,
    Bool.or_self, Bool.false_eq_true, if_false]
  rfl

theorem fdiv_of_finite (hb0 : numMag b ≠ 0) :
    fdiv a b = roundUnits (signBit a != signBit b) (numMag a * oneMag) (numMag b) := by
  simp only [fdiv, isNaN_of_isFinite ha, isNaN_of_isFinite hb, isInf_of_isFinite ha, isInf_of_isFinite hb, hb0,
    Bool.or_self, Bool.false_eq_true, if_false]
  rfl

theorem roundsTo_fadd : RoundsTo (numVal a + numVal b) (fadd a b) := by
  rw [fadd_of_finite ha hb]
  have h := roundsTo_roundUnits
    (if numFix a + numFix b = 0 then signBit a && signBit b else decide (numFix a + numFix b < 0))
    (numFix a + numFix b).natAbs one_pos
  rwa [Nat.cast_one, div_one, sgn_mul_natAbs _ fun hs => if_neg hs, Int.cast_add, add_div, ← numVal_eq, ← numVal_eq] at h

theorem roundsTo_fmul : RoundsTo (numVal a * numVal b) (fmul a b) := by
  have hexact : numVal a * numVal b =
      sgn (signBit a != signBit b) * ((numMag a * numMag b : Nat) / oneMag : ℚ) / oneMag := by
    rw [numVal_eq_sgn, numVal_eq_sgn, sgn_bne, numMag_eq, numMag_eq, Nat.cast_mul]
    generalize (oneMag : ℚ) = one
    ring
  rw [fmul_of_finite ha hb, hexact]
  exact roundsTo_roundUnits _ _ oneMag_pos

theorem roundsTo_fdiv (hb0 : numMag b ≠ 0) : RoundsTo (numVal a / numVal b) (fdiv a b) := by
  have hexact : numVal a / numVal b =
      sgn (signBit a != signBit b) * ((numMag a * oneMag : Nat) / (numMag b : Nat) : ℚ) / oneMag := by
    have hone : (oneMag : ℚ) ≠ 0 := Nat.cast_ne_zero.2 oneMag_pos.ne'
    rw [numVal_eq_sgn, numVal_eq_sgn, sgn_bne, numMag_eq, numMag_eq, Nat.cast_mul, div_div_div_cancel_right₀ hone,
      mul_div_mul_comm, div_eq_mul_inv (sgn _), sgn_inv, mul_div_assoc,
      div_right_comm (_ * _), mul_div_cancel_right₀ _ hone]
  rw [fdiv_of_finite ha hb hb0, hexact]
  exact roundsTo_roundUnits _ _ (Nat.pos_of_ne_zero hb0)

end Finite

theorem numMag_ne_zero_of_numVal {x : NUM} (h : numVal x ≠ 0) : numMag x ≠ 0 := by
  rintro hzero
  rw [numVal_eq_sgn, ← numMag_eq, hzero, Nat.cast_zero, mul_zero, zero_div] at h
  exact h rfl

theorem numFix_add_eq_zero_iff (a b : NUM) : numFix a + numFix b = 0 ↔ numVal a + numVal b = 0 := by
  have hone : (oneMag : ℚ) ≠ 0 := Nat.cast_ne_zero.2 oneMag_pos.ne'
  rw [numVal_eq, numVal_eq, ← add_div, div_eq_zero_iff, or_iff_left hone, ← Int.cast_add, Int.cast_eq_zero]

/-- Settles O53: each operation is one `roundUnits` of its exact result, which is nearest, ties to even. -/
theorem roundedOnce : Obligations.RoundedOnce := by
  intro a b ha hb
  have hb' : isFinite (fneg b) = true := (isFinite_fneg b).trans hb
  refine ⟨roundsTo_fadd ha hb, ?_, roundsTo_fmul ha hb, fun hb0 => roundsTo_fdiv ha hb (numMag_ne_zero_of_numVal hb0),
    fun hsum => ?_, ?_, fun hb0 => ?_⟩
  · rw [sub_eq_add_neg, ← numVal_fneg]
    exact roundsTo_fadd ha hb'
  · have hzero := (numFix_add_eq_zero_iff a b).2 hsum
    rw [fadd_of_finite ha hb, if_pos hzero, hzero, Int.natAbs_zero, roundUnits_zero]
    cases signBit a <;> cases signBit b <;> decide
  · rw [fmul_of_finite ha hb, signBit_roundUnits]
  · rw [fdiv_of_finite ha hb (numMag_ne_zero_of_numVal hb0), signBit_roundUnits]

end Sys2Proof.Proofs

/-!
PROOFS. The soft-start contract of the Loop kinds (spec/41_control_filters.md R132).
-/

namespace Sys2Proof.Proofs

open Sys2Proof Sys2Proof.Machine

/- One theorem after the other, as in the tests: side by side each takes a thread, and its stack. -/
set_option Elab.async false

/-! ### Zeros, of either sign -/

/-- The NUM is `+0.0` or `−0.0`. -/
def IsZero (x : NUM) : Prop := magField x = 0

theorem isZero_zero : IsZero NUM.zero := by unfold IsZero; decide

theorem isZero_iff_numVal (x : NUM) : IsZero x ↔ numVal x = 0 := by
  have hone : (oneMag : ℚ) ≠ 0 := Nat.cast_ne_zero.2 oneMag_pos.ne'
  have hsgn : sgn (signBit x) ≠ 0 := by cases signBit x <;> norm_num [sgn]
  rw [numVal_eq_sgn, div_eq_zero_iff, or_iff_left hone, mul_eq_zero, or_iff_right hsgn, Nat.cast_eq_zero, ← unitsOf_zero,
    unitsOf_strictMono.injective.eq_iff, IsZero]

namespace IsZero

variable {x y : NUM}

theorem isFinite (h : IsZero x) : isFinite x = true := by
  rw [isFinite_iff, h]
  decide

theorem numKey_eq (h : IsZero x) : numKey x = 0 := by
  rw [numKey, h]
  simp

theorem packNum (neg : Bool) : IsZero (packNum neg 0) := magField_packNum neg (by decide)

/-- A sum of finite NUMs that is zero is a zero. -/
theorem fadd_of_numVal (hx : Machine.isFinite x = true) (hy : Machine.isFinite y = true)
    (h : numVal x + numVal y = 0) : IsZero (fadd x y) := by
  rw [fadd_of_finite hx hy, (numFix_add_eq_zero_iff x y).2 h, Int.natAbs_zero, roundUnits_zero]
  exact packNum _

theorem fadd (hx : IsZero x) (hy : IsZero y) : IsZero (fadd x y) :=
  fadd_of_numVal hx.isFinite hy.isFinite
    (by rw [(isZero_iff_numVal x).1 hx, (isZero_iff_numVal y).1 hy, add_zero])

theorem fsub_self (hx : Machine.isFinite x = true) : IsZero (fsub x x) :=
  fadd_of_numVal hx ((isFinite_fneg x).trans hx) (by rw [numVal_fneg, add_neg_cancel])

theorem signed (sign : Sign) (hx : IsZero x) : IsZero (signed sign x) := by
  cases sign
  case plus => exact hx
  case minus => exact (magField_fneg x).trans hx

theorem numMag_eq_zero (h : IsZero x) : numMag x = 0 := by
  rw [numMag_eq, h, unitsOf_zero]

/-- The finite factor is what shuts out the NaN of zero times infinity (U4). -/
theorem fmul (hx : Machine.isFinite x = true) (hy : IsZero y) : IsZero (fmul x y) := by
  rw [fmul_of_finite hx hy.isFinite, hy.numMag_eq_zero, mul_zero, roundUnits_zero]
  exact packNum _

theorem fdiv (hx : IsZero x) (hy : Machine.isFinite y = true) (hy0 : ¬IsZero y) : IsZero (fdiv x y) := by
  have hmag : numMag y ≠ 0 := numMag_ne_zero_of_numVal (mt (isZero_iff_numVal y).2 hy0)
  rw [fdiv_of_finite hx.isFinite hy hmag, hx.numMag_eq_zero, zero_mul, roundUnits_zero]
  exact packNum _

end IsZero

/-! ### A lowpass on zeros (R101) -/

theorem isZero_tapSum {n : Nat} {cs xs : List NUM} (hcs : ∀ c ∈ cs.take n, isFinite c = true) (hxs : ∀ x ∈ xs, IsZero x) :
    IsZero (tapSum n cs xs) := by
  have hfold : ∀ (ps : List (NUM × NUM)) (acc : NUM), (∀ p ∈ ps, isFinite p.1 = true ∧ IsZero p.2) → IsZero acc →
      IsZero (ps.foldl (fun sum p => fadd sum (fmul p.1 p.2)) acc) := by
    intro ps
    induction ps with
    | nil => exact fun acc _ hacc => hacc
    | cons p ps ih =>
      intro acc hps hacc
      obtain ⟨hp, hrest⟩ := List.forall_mem_cons.1 hps
      exact ih _ hrest (hacc.fadd (IsZero.fmul hp.1 hp.2))
  refine hfold _ _ (fun p hp => ?_) isZero_zero
  rw [List.zip, List.take_zipWith] at hp
  obtain ⟨hc, hx⟩ := List.of_mem_zip hp
  exact ⟨hcs _ hc, hxs _ (List.mem_of_mem_take hx)⟩

/-- Both registers of the history hold zeros only. -/
def ZeroHistory (h : History) : Prop := (∀ x ∈ h.x, IsZero x) ∧ ∀ y ∈ h.y, IsZero y

theorem zeroHistory_rfReset (taps : Nat) : ZeroHistory (rfReset taps NUM.zero) := by
  have hfilled (x : NUM) (hx : x ∈ List.replicate taps NUM.zero) : IsZero x := (List.eq_of_mem_replicate hx) ▸ isZero_zero
  exact ⟨hfilled, hfilled⟩

/-- Every coefficient below the lengths is finite. -/
def FiniteCoefs (c : Coefs) : Prop :=
  (∀ a ∈ c.ff.take c.nff, isFinite a = true) ∧ ∀ a ∈ c.fb.take c.nfb, isFinite a = true

theorem isZero_rfUpdate (taps : Nat) {c : Coefs} {h : History} {x : NUM} (hc : FiniteCoefs c) (hh : ZeroHistory h)
    (hx : IsZero x) : IsZero (rfUpdate taps c h x).2 := by
  have hin : ∀ v ∈ shiftIn taps x h.x, IsZero v := fun v hv =>
    List.forall_mem_cons.2 ⟨hx, hh.1⟩ v (List.mem_of_mem_take hv)
  exact (isZero_tapSum hc.1 hin).fadd (isZero_tapSum hc.2 hh.2)

theorem isZero_lowpassResult (taps : Nat) {F : CtrlSlot} {e : NUM} (hc : FiniteCoefs F.coef) (h1 : ZeroHistory F.h1)
    (h2 : ZeroHistory F.h2) (he : IsZero e) : IsZero (lowpassResult taps F e) := by
  unfold lowpassResult
  split
  · exact isZero_rfUpdate taps hc h2 (isZero_rfUpdate taps hc h1 he)
  · exact isZero_rfUpdate taps hc h1 he

/-! ### Adding a zero keeps a NUM -/

theorem nearest_self (m : Nat) : Nearest m (unitsOf m) := by
  intro j
  rw [sub_self, abs_zero]
  refine ⟨abs_nonneg _, fun htie hne => ?_⟩
  rw [abs_eq_zero, sub_eq_zero, Nat.cast_inj] at htie
  exact absurd (unitsOf_strictMono.injective htie) hne

/-- A finite NUM is below the first value that rounds to infinity. -/
theorem abs_numVal_lt {v : NUM} (h : isFinite v = true) : |numVal v| < 2 ^ 1024 - 2 ^ 970 := by
  have hone : (0 : ℚ) < oneMag := Nat.cast_pos.2 oneMag_pos
  rw [numVal_eq_sgn, abs_div, abs_of_pos hone, abs_sgn_mul, abs_of_nonneg (Nat.cast_nonneg _), div_lt_iff₀ hone, ← not_le,
    ← infField_le_iff (nearest_self _), not_le]
  exact (isFinite_iff v).1 h

theorem feq_of_roundsTo {v r : NUM} (hv : isFinite v = true) (h : RoundsTo (numVal v) r) : feq r v = true := by
  obtain ⟨hr, hnear⟩ := h.1 (abs_numVal_lt hv)
  have hdist := (hnear v hv).1
  rw [sub_self, abs_zero, abs_nonpos_iff, sub_eq_zero, numVal_inj_iff] at hdist
  exact (feq_eq r v).2 ⟨isNaN_of_isFinite hr, isNaN_of_isFinite hv, hdist⟩

theorem feq_refl {v : NUM} (h : isNaN v = false) : feq v v = true := (feq_eq v v).2 ⟨h, h, rfl⟩

theorem feq_trans {a b c : NUM} (hab : feq a b = true) (hbc : feq b c = true) : feq a c = true := by
  obtain ⟨ha, -, hkab⟩ := (feq_eq a b).1 hab
  obtain ⟨-, hc, hkbc⟩ := (feq_eq b c).1 hbc
  exact (feq_eq a c).2 ⟨ha, hc, hkab.trans hkbc⟩

theorem isFinite_or_isInf {v : NUM} (h : isNaN v = false) : isFinite v = true ∨ isInf v = true := by
  rw [isFinite_iff, isInf_iff]
  exact lt_or_eq_of_le (inf_bound h)

theorem feq_fadd_zero {v z : NUM} (hv : isNaN v = false) (hz : IsZero z) : feq (fadd v z) v = true := by
  obtain hfin | hinf := isFinite_or_isInf hv
  · have h := roundsTo_fadd hfin hz.isFinite
    rw [(isZero_iff_numVal z).1 hz, add_zero] at h
    exact feq_of_roundsTo hfin h
  · have h : fadd v z = v := by simp [fadd, hv, hinf, isNaN_of_isFinite hz.isFinite, isInf_of_isFinite hz.isFinite]
    rw [h]
    exact feq_refl hv

theorem feq_zero_fadd {v z : NUM} (hv : isNaN v = false) (hz : IsZero z) : feq (fadd z v) v = true := by
  obtain hfin | hinf := isFinite_or_isInf hv
  · have h := roundsTo_fadd hz.isFinite hfin
    rw [(isZero_iff_numVal z).1 hz, zero_add] at h
    exact feq_of_roundsTo hfin h
  · have h : fadd z v = v := by simp [fadd, hv, hinf, isNaN_of_isFinite hz.isFinite, isInf_of_isFinite hz.isFinite]
    rw [h]
    exact feq_refl hv

/-- A clamp keeps what is equal to a value inside the bounds (R12). -/
theorem clamp_of_feq {x v lo hi : NUM} (hx : feq x v = true) (hlo : fle lo v = true) (hhi : fle v hi = true) :
    clamp x lo hi = x := by
  obtain ⟨hnx, -, hkey⟩ := (feq_eq x v).1 hx
  obtain ⟨hnlo, -, hklo⟩ := (fle_eq lo v).1 hlo
  obtain ⟨-, hnhi, hkhi⟩ := (fle_eq v hi).1 hhi
  exact clamp_of_between (flt_false_of_fle ((fle_eq lo x).2 ⟨hnlo, hnx, hkey ▸ hklo⟩))
    (flt_false_of_fle ((fle_eq x hi).2 ⟨hnx, hnhi, hkey ▸ hkhi⟩))

/-! ### The soft start (R132) -/

/-- A slot as the seed leaves it: no error, zero histories, and the value in the accumulator that the kind seeds. -/
structure Seeded (F : CtrlSlot) (v : NUM) : Prop where
  eprev : IsZero F.eprev
  h1 : ZeroHistory F.h1
  h2 : ZeroHistory F.h2
  single : twoIntegrators F.kind = false → F.i = v
  double : twoIntegrators F.kind = true → IsZero F.i ∧ F.ii = v

theorem seeded_cfSetoff_cfReset (taps : Nat) (F : CtrlSlot) (v : NUM) :
    Seeded (cfSetoff (cfReset taps F NUM.zero) v) v := by
  have hzero := zeroHistory_rfReset taps
  unfold cfSetoff
  split
  case isTrue htwo =>
    exact
      { eprev := isZero_zero, h1 := hzero, h2 := hzero
        single := fun h => absurd (htwo.symm.trans h) (by decide)
        double := fun _ => ⟨isZero_zero, rfl⟩ }
  case isFalse htwo =>
    exact
      { eprev := isZero_zero, h1 := hzero, h2 := hzero, single := fun _ => rfl, double := fun h => absurd h htwo }

section SoftStart

variable {F : CtrlSlot} {dt v e : NUM} (hseeded : Seeded F v) (he : IsZero e)
  (hgain : isFinite (fmul (fmul NUM.half F.ki) dt) = true)

include hseeded he hgain

/-- With no error the trapezoidal step is a zero (R121). -/
theorem isZero_trapezoid : IsZero (fmul (fmul (fmul NUM.half F.ki) dt) (fadd e F.eprev)) :=
  IsZero.fmul hgain (he.fadd hseeded.eprev)

theorem feq_intStep_i (htwo : twoIntegrators F.kind = false) (hlo : fle F.intLo v = true) (hhi : fle v F.intHi = true) :
    feq (intStep dt F e).i v = true := by
  have hnan : isNaN v = false := ((fle_eq _ _).1 hhi).1
  have hsum := feq_fadd_zero hnan (isZero_trapezoid hseeded he hgain)
  rw [intStep, hseeded.single htwo, clamp_of_feq hsum hlo hhi]
  exact hsum

theorem isZero_intStep_i (htwo : twoIntegrators F.kind = true) (hlo : fle F.intLo NUM.zero = true)
    (hhi : fle NUM.zero F.intHi = true) : IsZero (intStep dt F e).i := by
  have hzero := isZero_trapezoid hseeded he hgain
  have hi := (hseeded.double htwo).1
  have hsum := hi.fadd hzero
  have hfeq : feq (fadd F.i (fmul (fmul (fmul NUM.half F.ki) dt) (fadd e F.eprev))) NUM.zero = true :=
    (feq_eq _ _).2 ⟨isNaN_of_isFinite hsum.isFinite, by decide, hsum.numKey_eq.trans isZero_zero.numKey_eq.symm⟩
  rw [intStep, clamp_of_feq hfeq hlo hhi]
  exact hsum

omit hseeded he hgain in
/-- A zero first integrator moves the second by a zero (R123). -/
theorem isZero_int2Inc (hki : isFinite F.ki = true) (hkii : isFinite (fmul F.kii dt) = true) (hi : IsZero F.i) :
    IsZero (int2Inc dt F) := by
  rw [int2Inc_eq]
  split
  case isTrue => exact isZero_zero
  case isFalse hne =>
    refine IsZero.fmul hkii (hi.fdiv hki fun hz => hne ?_)
    exact (feq_eq _ _).2 ⟨isNaN_of_isFinite hki, by decide, hz.numKey_eq.trans isZero_zero.numKey_eq.symm⟩

end SoftStart

/-- The accumulators of a seeded slot still add up to the seed after an update without an error. -/
theorem feq_loopAcc {taps : Nat} {dt sp pv v : NUM} {F : CtrlSlot} (hseeded : Seeded F v)
    (he : IsZero (ctrlError F sp pv)) (hki : isFinite F.ki = true)
    (hgain : isFinite (fmul (fmul NUM.half F.ki) dt) = true) (hlo : fle F.intLo v = true) (hhi : fle v F.intHi = true)
    (hdouble : twoIntegrators F.kind = true →
      fle F.intLo NUM.zero = true ∧ fle NUM.zero F.intHi = true ∧ isFinite (fmul F.kii dt) = true) :
    feq (loopAcc (twoIntegrators F.kind) (cfUpdate taps dt F sp pv).1) v = true := by
  have hnan : isNaN v = false := ((fle_eq _ _).1 hhi).1
  cases htwo : twoIntegrators F.kind with
  | false =>
    rw [loopAcc, if_neg (by decide), cfUpdate_i]
    exact feq_intStep_i hseeded he hgain htwo hlo hhi
  | true =>
    obtain ⟨hlo0, hhi0, hkii⟩ := hdouble htwo
    have hi := isZero_intStep_i hseeded he hgain htwo hlo0 hhi0
    have hsum := feq_fadd_zero hnan (isZero_int2Inc (F := intStep dt F (ctrlError F sp pv)) hki hkii hi)
    have hii : feq (cfUpdate taps dt F sp pv).1.ii v = true := by
      rw [cfUpdate_ii _ _ _ _ _ htwo, (hseeded.double htwo).2, clamp_of_feq hsum hlo hhi]
      exact hsum
    rw [loopAcc, if_pos rfl, cfUpdate_i]
    exact feq_trans (feq_zero_fadd ((feq_eq _ _).1 hii).1 hi) hii

/-- Settles O59: with setpoint equal to process variable the error, the integrator steps and the lowpass are zeros, so the sum is
the seed, which every clamp keeps. -/
theorem softStart : Obligations.SoftStart := by
  intro taps dt F sp v _ _ hkind hsp hki hff hfb hgain hilo hihi holo hohi hdouble
  have hseeded := seeded_cfSetoff_cfReset taps F v
  have hsame : sameParameters (cfSetoff (cfReset taps F NUM.zero) v) F := cfSeed_sameParameters taps F v
  generalize cfSetoff (cfReset taps F NUM.zero) v = G at hseeded hsame ⊢
  obtain ⟨-, hk, -, -, hGki, -, -, -, hGkii, holoG, hohiG, hiloG, hihiG, hcoef⟩ := hsame
  have he : IsZero (ctrlError G sp sp) := (IsZero.fsub_self hsp).signed G.sign
  have hacc : feq (loopAcc (twoIntegrators G.kind) (cfUpdate taps dt G sp sp).1) v = true := by
    refine feq_loopAcc hseeded he (hGki ▸ hki) (hGki ▸ hgain) (hiloG ▸ hilo) (hihiG ▸ hihi) fun htwo => ?_
    rw [hk] at htwo
    rw [hiloG, hihiG, hGkii]
    exact hdouble ((twoIntegrators_iff F.kind).1 htwo)
  have hlp : IsZero (lowpassResult taps G (ctrlError G sp sp)) :=
    isZero_lowpassResult taps (hcoef ▸ ⟨hff, hfb⟩) hseeded.h1 hseeded.h2 he
  have hsum := feq_trans (feq_fadd_zero ((feq_eq _ _).1 hacc).1 hlp) hacc
  rw [cfUpdate_result_of_loop _ _ _ _ _ (hk ▸ hkind), holoG, hohiG, clamp_of_feq hsum holo hohi]
  exact hsum

end Sys2Proof.Proofs
